-- ==== Sys2Proof/Word.lean ====
section
/-! DEFINITION. The words of the link (R196): a byte, and a set of up to sixteen named members. -/

namespace Sys2Proof

/-- One byte of the serial link. -/
abbrev Byte := BitVec 8

/-- A SET of R196: bit i stands for member i of the set's list, bit 0 the least significant. -/
abbrev FlagSet := BitVec 16

/-- One of the twelve power outputs, by its index (section 4.1). -/
abbrev OutId := Fin 12

/-- One of the six light channels L1 to L6, by its index (section 5.1). -/
abbrev LightId := Fin 6

end Sys2Proof
end

