-- ==== Sys2Proof/Syntax.lean ====
section
/-! DEFINITION. The commands of the part: one constructor of `Instr` for each row of spec/opcode_table.json, and the
names their operands use. The part fetches nothing: a command is a request of the host, an event at an input, or an
expiry of one of the part's own timers. -/

namespace Sys2Proof

/-- The two driven mechanisms (section 8.1). -/
inductive Axis | awn | step
  deriving DecidableEq, Repr

/-- The direction of a move (section 8.2). -/
inductive Direction | extend | retract
  deriving DecidableEq, Repr

/-- The three debounced axis switches (section 8.1): each axis has a retracted switch, STEP an extended switch too. -/
inductive AxisSwitch | awnRetracted | stepRetracted | stepExtended
  deriving DecidableEq, Repr

/-- The three fault causes of an output (section 4.5). -/
inductive FaultCause | overcurrent | short | openLoad
  deriving DecidableEq, Repr

/-- What a load check finds (R76). -/
inductive LoadCheck | shorted | openLoad | normal
  deriving DecidableEq, Repr

/-- What the drain position input reads (R132). -/
inductive DrainPos | opened | closed | neither
  deriving DecidableEq, Repr

/-- What one sampling of a channel other than BV and BI meets at its converter or probe group (R1 to R3). A number is
the converter's input in the channel's unit, in or out of its measurement range; the probes are wet (`true`) or dry,
from the bottom upward. The WIND count is the scanner's own. -/
inductive ChannelInput
  | tBank (x : Int)
  | tCabin (x : Int)
  | tWater (x : Int)
  | tDie (x : Int)
  | fresh (p25 p50 p75 p100 : Bool)
  | grey (half full : Bool)
  | wind
  deriving DecidableEq, Repr

/-- The part's input pins as they stand: what the outside world presents. `straps` are the two address straps; the
switch and contact fields are `true` for a made contact (CLOSED); `door` is `true` for OPEN; `psw` is `true` for
CLOSED; `flame` is `true` for an asserted flame-OK. The loads, currents, analog levels and probes are what the output
stages and the scanner would measure now; `storeGood` says whether the store's memory takes the phase in hand. -/
structure Inputs where
  straps : BitVec 2
  ign : Bool
  dplus : Bool
  door : Bool
  flame : Bool
  psw : Bool
  drainOpenContact : Bool
  drainClosedContact : Bool
  awnRetracted : Bool
  stepRetracted : Bool
  stepExtended : Bool
  loads : Vector LoadCheck 12
  currents : Vector Nat 12
  bv : Int
  bi : Int
  tBank : Int
  tCabin : Int
  tWater : Int
  tDie : Int
  fresh25 : Bool
  fresh50 : Bool
  fresh75 : Bool
  fresh100 : Bool
  greyHalf : Bool
  greyFull : Bool
  storeGood : Bool
  deriving DecidableEq, Repr

/-- A host request as a frame gives it, operands in their wire encodings (R198). -/
inductive HostRequest
  | ident
  | readTable (table index count : Byte)
  | readNext
  | writeTable (table index : Byte) (records : List Byte)
  | writeNext (records : List Byte)
  | storeTable (table : Byte)
  | readCauses (cause : Option Byte)
  | clearCauses (causes : FlagSet)
  | releaseAttn
  | setMask (causes : FlagSet)
  | switch (output state : Byte)
  | setLight (channel : Byte) (duty : BitVec 16) (fadeTime : Byte)
  | recallScene (scene : Byte)
  | move (axis direction : Byte)
  | stopMove (axis : Byte)
  | setClimate (mode : Byte) (setpoint : Option (BitVec 16))
  | resetHeater
  | openDrain
  | closeDrain
  | clearFault (output cause : Byte)
  | markFull
  | sleep
  | restart
  deriving DecidableEq, Repr

/-- The commands. The first block are the host's requests (a good frame with that request, addressed to this unit, is
completed); then the bytes and silences of the link, the supply, the store's phases, the scanner, the account, the
output stages, the lights, the heater, the water system, the axes and the vehicle inputs. -/
inductive Instr
  -- requests of the host
  | ident (strapsNow : BitVec 2)
  | readTable (table index count : Byte)
  | readNext
  | writeTable (table index : Byte) (records : List Byte)
  | writeNext (records : List Byte)
  | storeTable (table : Byte)
  | readCauses (cause : Option Byte)
  | clearCauses (causes : FlagSet)
  | releaseAttn
  | attnRetest
  | setMask (causes : FlagSet)
  | switch (output state : Byte)
  | setLight (channel : Byte) (duty : BitVec 16) (fadeTime : Byte)
  | recallScene (scene : Byte)
  | move (axis direction : Byte)
  | stopMove (axis : Byte)
  | setClimate (mode : Byte) (setpoint : Option (BitVec 16))
  | resetHeater
  | openDrain
  | closeDrain
  | clearFault (output cause : Byte) (load : LoadCheck)
  | markFull
  | sleep
  | restart
  -- the link's bytes and silences
  | byteReceived (byte : Byte) (stopBitGood : Bool)
  | linkGapTimeout
  | replySent
  -- the supply
  | supplyFall
  | supplyRise (fellBelowRetention retentionGood : Bool) (pins : Inputs)
  -- the Settings Store's phases
  | storeErase (blank : Bool)
  | storeRecordWrite (complete : Bool)
  | storeVerify (differs : Option Nat)
  -- the scanner and the Energy Account
  | passStart
  | windPulse
  | channelSample (input : ChannelInput)
  | bankPair (bv bi : Int)
  | restCalibration
  | fullDetection
  -- the output stages
  | currentRefresh (out : OutId) (milliamps : Nat)
  | overcurrentDwellExpiry (out : OutId)
  | openTimerExpiry (out : OutId)
  | retryExpiry (out : OutId)
  | cleanTimerExpiry (out : OutId) (cause : FaultCause)
  -- the lights
  | periodBoundary
  | fadeTick (channel : LightId)
  | fadeEnd (channel : LightId)
  | courtesyTimeout
  -- the heater
  | flameStateChange (seen : Bool)
  | ignitionTimeout
  | purgeEnd
  -- the water system
  | pswChange (closed : Bool)
  | dryRunExpiry
  | runLimitExpiry
  | frostExpiry
  | drainPositionChange (position : DrainPos)
  | pulseComplete
  | confirmWindowExpiry
  -- the axes
  | axisSwitchChange (switch : AxisSwitch) (closed : Bool)
  | hallPulse (axis : Axis)
  | travelReached
  | moveOverrun
  | stallExpiry
  | jamExpiry
  | driveStart
  | entryExpiry (axis : Axis)
  | windHoldExpiry
  -- the vehicle inputs and the link's silence
  | ignChange (on : Bool)
  | dplusChange (on : Bool)
  | doorChange (opened : Bool)
  | silenceExpiry
  deriving DecidableEq, Repr

end Sys2Proof
end

