-- ==== Sys2Proof/Decode.lean ====
section
/-! DEFINITION. The table's words, and the request frames of the link. No row of spec/opcode_table.json gives bits, so
no word spells a command (`decodeTableWord` answers none). What the part itself decodes is a request frame: its KIND and
payload (R198), read here into a `HostRequest`. -/

namespace Sys2Proof

/-- The command that a word spells by the table's bits. Every row's "fields" is empty and no row has "fixed" bits. -/
def decodeTableWord (nbits w : Nat) : Option Instr :=
  match nbits, w with
  | _, _ => none

/-- Two bytes, most significant first (R196). -/
def wordOf (hi lo : Byte) : BitVec 16 := hi ++ lo

/-- What a KIND and its payload read as. -/
inductive FrameReading
  /-- No request has this KIND (R198: 0, or above 23). -/
  | unknownKind
  /-- The LEN does not fit the KIND (R198). -/
  | badLength
  /-- The request the frame carries. -/
  | request (r : HostRequest)
  deriving DecidableEq, Repr

/-- R198: the request of a KIND and its payload. The lengths that depend on a table (WRITE-TABLE beyond its two leading
bytes, WRITE-NEXT) are judged where the table is known; a WRITE-TABLE of one byte whose table code is outside 0 to 18
goes there too, since R183 judges that code before the length. -/
def readFrame (kind : Nat) (payload : List Byte) : FrameReading :=
  match kind with
  | 1 => match payload with | [] => .request .ident | _ => .badLength
  | 2 => match payload with | [t, i, c] => .request (.readTable t i c) | _ => .badLength
  | 3 => match payload with | [] => .request .readNext | _ => .badLength
  | 4 => match payload with
    | t :: i :: records => .request (.writeTable t i records)
    | [t] => if 18 < t.toNat then .request (.writeTable t 0 []) else .badLength
    | [] => .badLength
  | 5 => .request (.writeNext payload)
  | 6 => match payload with | [t] => .request (.storeTable t) | _ => .badLength
  | 7 => match payload with
    | [] => .request (.readCauses none)
    | [c] => .request (.readCauses (some c))
    | _ => .badLength
  | 8 => match payload with | [h, l] => .request (.clearCauses (wordOf h l)) | _ => .badLength
  | 9 => match payload with | [] => .request .releaseAttn | _ => .badLength
  | 10 => match payload with | [h, l] => .request (.setMask (wordOf h l)) | _ => .badLength
  | 11 => match payload with | [o, s] => .request (.switch o s) | _ => .badLength
  | 12 => match payload with | [c, h, l, f] => .request (.setLight c (wordOf h l) f) | _ => .badLength
  | 13 => match payload with | [s] => .request (.recallScene s) | _ => .badLength
  | 14 => match payload with | [a, d] => .request (.move a d) | _ => .badLength
  | 15 => match payload with | [a] => .request (.stopMove a) | _ => .badLength
  | 16 => match payload with
    | [m] => .request (.setClimate m none)
    | [m, h, l] => .request (.setClimate m (some (wordOf h l)))
    | _ => .badLength
  | 17 => match payload with | [] => .request .resetHeater | _ => .badLength
  | 18 => match payload with | [] => .request .openDrain | _ => .badLength
  | 19 => match payload with | [] => .request .closeDrain | _ => .badLength
  | 20 => match payload with | [o, c] => .request (.clearFault o c) | _ => .badLength
  | 21 => match payload with | [] => .request .markFull | _ => .badLength
  | 22 => match payload with | [] => .request .sleep | _ => .badLength
  | 23 => match payload with | [] => .request .restart | _ => .badLength
  | _ => .unknownKind

/-- The KIND of a request (R198). -/
def HostRequest.kind : HostRequest → Nat
  | .ident => 1 | .readTable .. => 2 | .readNext => 3 | .writeTable .. => 4 | .writeNext .. => 5
  | .storeTable .. => 6 | .readCauses .. => 7 | .clearCauses .. => 8 | .releaseAttn => 9 | .setMask .. => 10
  | .switch .. => 11 | .setLight .. => 12 | .recallScene .. => 13 | .move .. => 14 | .stopMove .. => 15
  | .setClimate .. => 16 | .resetHeater => 17 | .openDrain => 18 | .closeDrain => 19 | .clearFault .. => 20
  | .markFull => 21 | .sleep => 22 | .restart => 23

/-- The two bytes of a word, most significant first (R196). -/
def bytesOf (w : BitVec 16) : List Byte := [w.extractLsb' 8 8, w.extractLsb' 0 8]

/-- The payload of a request (R198): the encoder of `readFrame`. -/
def HostRequest.payload : HostRequest → List Byte
  | .readTable t i c => [t, i, c]
  | .writeTable t i records => t :: i :: records
  | .writeNext records => records
  | .storeTable t => [t]
  | .readCauses none => []
  | .readCauses (some c) => [c]
  | .clearCauses s => bytesOf s
  | .setMask s => bytesOf s
  | .switch o s => [o, s]
  | .setLight c d f => c :: bytesOf d ++ [f]
  | .recallScene s => [s]
  | .move a d => [a, d]
  | .stopMove a => [a]
  | .setClimate m none => [m]
  | .setClimate m (some p) => m :: bytesOf p
  | .clearFault o c => [o, c]
  | _ => []

/-- The sum of a frame's bytes from ADDR on, modulo 256 (R182, R195). -/
def frameSum (bytes : List Byte) : Byte := bytes.foldl (· + ·) 0

/-- The CHECK byte that makes the sum of ADDR to CHECK a multiple of 256 (R195). -/
def checkByte (bytes : List Byte) : Byte := -(frameSum bytes)

end Sys2Proof
end

