-- ==== Sys2Proof/Config.lean ====
section
/-! DEFINITION. What one unit of the part fixes (R185) and the free values the spec leaves open. -/

namespace Sys2Proof.Config

/-- The part's identity code (R185). -/
def identity : Nat := 0x0048

/-- The part's revision (R185). -/
def revision : Nat := 0x01

/-- FREE VALUE. The n-th value that the spec leaves unstated. It has no body: nothing in Lean can evaluate it.
It stands for the state before in two detail records posted AT START: the HEATER detail of a LOCKOUT entered at start
(R116 and R122 name no state there) and the DRAIN detail of a start in FAULT (R137 and R140 name none).
`State.works.free` counts the uses. Log entry 3. -/
opaque freeCode : Nat → Nat

end Sys2Proof.Config
end

