-- ==== Sys2Proof/Machine/Tables.lean ====
section
/-! DEFINITION. The nine setup tables: their records as data, and the defaults that the chapters give. -/

namespace Sys2Proof.Machine

/-- One of the nineteen tables is named by its table code (section 10.4); the nine setup tables are codes 0 to 8. -/
abbrev SetupId := Fin 9

/-- Bank chemistry (section 2.12). -/
inductive Chemistry | lead | lithium
  deriving DecidableEq, Repr

/-- BANK-SETUP (section 2.12): seventeen records of one field each. -/
structure BankSetup where
  /-- record 0 -/
  chemistry : Chemistry
  /-- record 1: capacity C, Ah -/
  capacity : Nat
  /-- record 2: charge efficiency η, per-mille -/
  efficiency : Nat
  /-- record 3: Vfull, mV -/
  vFull : Nat
  /-- record 4: rest time, minutes -/
  restMinutes : Nat
  /-- record 5 -/
  driftCycles : Nat
  /-- records 6 to 16: V0 to V10, mV -/
  points : Vector Nat 11
  deriving DecidableEq, Repr

/-- SHED-SETUP (sections 2.13 and 3.12): thirteen records of one field each. -/
structure ShedSetup where
  t1 : Nat
  t2 : Nat
  t3 : Nat
  t4 : Nat
  hysteresis : Nat
  vLow : Nat
  vCut : Nat
  /-- the ceilings of shed levels 0 to 4, mA -/
  ceilings : Vector Nat 5
  /-- seconds -/
  barrierAge : Nat
  deriving DecidableEq, Repr

/-- The five fault modes (section 4.6). -/
inductive FaultMode | report | retryFast | retrySlow | latch | ignore
  deriving DecidableEq, Repr

/-- One LOAD-TABLE record (section 4.2). A field the output does not have is `none`. -/
structure LoadRecord where
  rated : Nat
  cls : Option Nat
  floorDuty : Option Nat
  trip : Nat
  /-- milliseconds -/
  dwell : Nat
  openThreshold : Option Nat
  overcurrentMode : FaultMode
  shortMode : FaultMode
  openMode : Option FaultMode
  deriving DecidableEq, Repr

/-- LOAD-TABLE: one record per output in index order. -/
abbrev LoadTable := Vector LoadRecord 12

/-- One scene (section 5.5): a duty, or absent, for each channel, and a fade time in 0.1 s. -/
structure Scene where
  duties : Vector (Option Nat) 6
  fadeTime : Nat
  deriving DecidableEq, Repr

/-- SCENES: records 0 to 7 are scenes, record 8 the courtesy settings (section 5.5). -/
structure SceneTable where
  scenes : Vector Scene 8
  courtesyDuty : Nat
  /-- seconds -/
  courtesyTime : Nat
  deriving DecidableEq, Repr

/-- The climate modes (section 6.1). -/
inductive ClimateMode | off | comfort | eco | frost
  deriving DecidableEq, Repr

/-- CLIMATE-SETUP (section 6.7). Temperatures are in 0.1 °C. -/
structure ClimateSetup where
  startMode : ClimateMode
  startSetpoint : Nat
  ecoOffset : Nat
  hysteresis : Nat
  fanFloor : Nat
  gain : Nat
  deriving DecidableEq, Repr

/-- WATER-SETUP (section 7.7). -/
structure WaterSetup where
  /-- 0.1 °C -/
  frostThreshold : Nat
  /-- seconds -/
  frostTime : Nat
  /-- seconds -/
  runLimit : Nat
  deriving DecidableEq, Repr

/-- MOTION-SETUP (section 8.9). -/
structure MotionSetup where
  awnTravel : Nat
  stepTravel : Nat
  awnStall : Nat
  stepStall : Nat
  autoStep : Bool
  windLimit : Nat
  windScale : Nat
  deriving DecidableEq, Repr

/-- One CHANNEL-SETUP record (section 1.4). -/
structure ChannelRecord where
  enabled : Bool
  minimum : Int
  maximum : Int
  holdPasses : Nat
  deriving DecidableEq, Repr

/-- CHANNEL-SETUP: one record per channel in the order of R1. -/
abbrev ChannelSetup := Vector ChannelRecord 9

/-- LINK-SETUP (section 10.4). -/
structure LinkSetup where
  /-- minutes; 0 is never -/
  silence : Nat
  startMask : FlagSet
  deriving DecidableEq, Repr

/-- The nine setup tables together: the live copies that LINK holds (section 2 of the opening chapter). -/
structure Tables where
  bank : BankSetup
  shed : ShedSetup
  load : LoadTable
  scenes : SceneTable
  climate : ClimateSetup
  water : WaterSetup
  motion : MotionSetup
  channel : ChannelSetup
  link : LinkSetup
  deriving DecidableEq, Repr

/-- The set of all fourteen causes (section 10.6). -/
def allCauses : FlagSet := 0x3FFF#16

/-- Section 2.12: the default efficiency of a chemistry. -/
def defaultEfficiency : Chemistry → Nat
  | .lead => 900
  | .lithium => 980

/-- Section 2.12: the default Vfull of a chemistry. -/
def defaultVFull : Chemistry → Nat
  | .lead => 14200
  | .lithium => 13900

/-- Section 2.12: the default voltage table of a chemistry. -/
def defaultPoints : Chemistry → Vector Nat 11
  | .lead => #v[11800, 11950, 12050, 12150, 12250, 12350, 12450, 12550, 12650, 12750, 12850]
  | .lithium => #v[12000, 12900, 13000, 13050, 13100, 13150, 13200, 13250, 13300, 13400, 13600]

/-- Section 2.13: the default Vlow of a chemistry. -/
def defaultVLow : Chemistry → Nat
  | .lead => 11600
  | .lithium => 12400

/-- Section 2.13: the default Vcut of a chemistry. -/
def defaultVCut : Chemistry → Nat
  | .lead => 11000
  | .lithium => 12000

/-- Section 2.12: "The defaults loaded when the stored table's check is bad are those of the LEAD column." -/
def defaultBank : BankSetup where
  chemistry := .lead
  capacity := 100
  efficiency := defaultEfficiency .lead
  vFull := defaultVFull .lead
  restMinutes := 120
  driftCycles := 2
  points := defaultPoints .lead

/-- Sections 2.13 and 3.12: Vlow and Vcut take the defaults of the chemistry in the loaded BANK-SETUP (R176). -/
def defaultShed (chemistry : Chemistry) : ShedSetup where
  t1 := 500
  t2 := 350
  t3 := 200
  t4 := 100
  hysteresis := 30
  vLow := defaultVLow chemistry
  vCut := defaultVCut chemistry
  ceilings := #v[40000, 25000, 15000, 6000, 0]
  barrierAge := 60

/-- Section 4.2: a default light record of a class. -/
def defaultLight (cls : Nat) : LoadRecord :=
  ⟨1500, some cls, some 200, 2200, 100, some 20, .retryFast, .latch, some .report⟩

/-- Section 4.2: the default LOAD-TABLE. -/
def defaultLoad : LoadTable :=
  #v[defaultLight 2, defaultLight 2, defaultLight 2, defaultLight 2, defaultLight 1, defaultLight 1,
    ⟨6000, some 1, none, 8000, 500, some 300, .retryFast, .latch, some .report⟩,
    ⟨2500, some 1, none, 3500, 300, none, .retryFast, .latch, none⟩,
    ⟨8000, some 2, none, 11000, 1000, none, .retryFast, .latch, none⟩,
    ⟨1500, some 0, none, 2500, 100, some 100, .retryFast, .latch, some .report⟩,
    ⟨12000, none, none, 15000, 200, none, .retryFast, .latch, none⟩,
    ⟨5000, some 3, none, 6500, 200, none, .retryFast, .latch, none⟩]

/-- Section 5.5: the default SCENES. -/
def defaultScenes : SceneTable where
  scenes := #v[
    ⟨#v[some 0, some 0, some 0, some 0, some 0, some 0], 10⟩,
    ⟨#v[some 600, some 400, none, none, none, none], 20⟩,
    ⟨#v[some 800, some 1000, none, none, none, none], 5⟩,
    ⟨#v[some 0, some 0, some 0, some 0, some 0, some 150], 30⟩,
    ⟨#v[none, none, none, some 1000, some 1000, none], 0⟩,
    ⟨#v[none, none, none, none, none, none], 0⟩,
    ⟨#v[none, none, none, none, none, none], 0⟩,
    ⟨#v[none, none, none, none, none, none], 0⟩]
  courtesyDuty := 600
  courtesyTime := 120

/-- Section 6.7: the default CLIMATE-SETUP. -/
def defaultClimate : ClimateSetup := ⟨.frost, 200, 30, 5, 300, 7⟩

/-- Section 7.7: the default WATER-SETUP. -/
def defaultWater : WaterSetup := ⟨30, 120, 300⟩

/-- Section 8.9: the default MOTION-SETUP. -/
def defaultMotion : MotionSetup := ⟨1200, 160, 9000, 7000, false, 100, 70⟩

/-- Section 1.4: the default CHANNEL-SETUP. -/
def defaultChannel : ChannelSetup :=
  #v[⟨true, 8000, 17000, 2⟩, ⟨true, -30000, 30000, 2⟩, ⟨true, -400, 850, 4⟩, ⟨true, -400, 850, 4⟩,
    ⟨true, -400, 850, 4⟩, ⟨true, -400, 1600, 2⟩, ⟨true, 0, 4, 1⟩, ⟨true, 0, 2, 1⟩, ⟨true, 0, 1000, 3⟩]

/-- Section 10.4: the default LINK-SETUP. -/
def defaultLink : LinkSetup := ⟨30, allCauses⟩

/-- Every table at its default, as a load with nine bad checks leaves the live tables (R176). -/
def defaultTables : Tables where
  bank := defaultBank
  shed := defaultShed defaultBank.chemistry
  load := defaultLoad
  scenes := defaultScenes
  climate := defaultClimate
  water := defaultWater
  motion := defaultMotion
  channel := defaultChannel
  link := defaultLink

end Sys2Proof.Machine
end

