-- ==== Sys2Proof/Machine/State.lean ====
section
/-! DEFINITION. The state of the part as plain data, block by block, and the machine right after reset. Three records
hold it: `Works` (the eight blocks that exchange grants, notices, causes and conditions), the scanner and the Energy
Account above them, and the Settings Store; `State` adds the pins, the debouncers, the supply and the queue of waiting
commands. Times are in milliseconds unless a field says otherwise. -/

namespace Sys2Proof.Machine

/-! ## Chapter 1: the scanner -/

/-- A published Reading: its validity with the value it carries (section 1.2). -/
inductive Reading
  | valid (value : Int)
  | held (value : Int)
  | invalid
  deriving DecidableEq, Repr

/-- A channel's last raw sample (section 1.2): a number, or the probe states of a ladder fault, wet probes as a bitmap
with the bottom probe as bit 0. -/
inductive RawSample
  | sample (x : Int)
  | ladder (wet : Nat)
  deriving DecidableEq, Repr

/-- One channel's Reading as the scanner keeps it (section 1.2). -/
structure ChannelState where
  reading : Reading
  hold : Nat
  raw : Option RawSample
  deriving DecidableEq, Repr

/-- The scanner (chapter 1). Channels are numbered in the order of R1: BV 0, BI 1, T_BANK 2, T_CABIN 3, T_WATER 4,
T_DIE 5, FRESH 6, GREY 7, WIND 8. -/
structure Scanner where
  channels : Vector ChannelState 9
  adopted : ChannelSetup
  passCounter : Nat
  /-- the period scheduled at the last pass start (R12) -/
  period : Nat
  /-- the pass length of the pass in hand: the period chosen at the pass start before it (R6) -/
  passLength : Nat
  /-- time to the next pass start -/
  untilPass : Nat
  windCount : Nat
  /-- the count read at the last pass start, for this pass's WIND sample; none where WIND takes no sample (R3) -/
  windSample : Option Nat
  /-- the pass length of WIND's last sample (R12) -/
  windLength : Nat
  /-- the channels that the pass in hand has still to sample, by number (R1, R8, R9, R14) -/
  awaited : FlagSet
  deriving DecidableEq, Repr

/-! ## Chapter 2: the Energy Account -/

inductive Confidence | unknown | estimated | calibrated | drifted
  deriving DecidableEq, Repr

/-- The kinds of conversion of the voltage table (R18). -/
inductive TableKind | estimate | rest | restSkipped
  deriving DecidableEq, Repr

/-- The Energy Account (section 2.1). -/
structure Account where
  bank : BankSetup
  shedSetup : ShedSetup
  /-- the capacity under which `q` was last computed, Ah -/
  heldCapacity : Nat
  /-- held charge Q, mA·s -/
  q : Nat
  confidence : Confidence
  throughput : Nat
  restClock : Option Nat
  restTaken : Bool
  fullClock : Option Nat
  s : Nat
  coldPenalty : Nat
  margin : Nat
  sEff : Nat
  socLevel : Nat
  voltageLevel : Nat
  lowCount : Nat
  cutCount : Nat
  releaseCount : Nat
  shedLevel : Nat
  bankTemp : Reading
  saturated : Bool
  lastTable : Option (Nat × TableKind)
  lastIncrement : Int
  lastBv : Reading
  lastBi : Reading
  deriving DecidableEq, Repr

/-! ## Chapter 3: the Grant Arbiter -/

/-- The proportional part of a request or record: rated mA, wanted duty, floor duty (section 3.5). -/
structure Proportion where
  rated : Nat
  wanted : Nat
  floor : Nat
  deriving DecidableEq, Repr

/-- The companion part of a companion request (section 3.3). -/
structure Companion where
  out : OutId
  cls : Nat
  ma : Nat
  prop : Option Proportion
  deriving DecidableEq, Repr

/-- A request as it reaches the arbiter (section 3.3). The owner follows from the output. -/
structure GrantRequest where
  out : OutId
  cls : Nat
  requested : Nat
  floor : Nat
  prop : Option Proportion
  companion : Option Companion
  deriving DecidableEq, Repr

/-- One Grant List record (R43). `arrival` is the number of the request that first made it, counted without wrap; the
request sequence of the spec is `arrival` modulo 65 536 (R42). -/
structure GrantRecord where
  out : OutId
  cls : Nat
  ma : Nat
  duty : Option Nat
  requested : Nat
  floor : Nat
  prop : Option Proportion
  arrival : Nat
  deriving DecidableEq, Repr

inductive WaitKind | new | topUp
  deriving DecidableEq, Repr

/-- One Wait List entry (R44). -/
structure WaitEntry where
  out : OutId
  companion : Option Companion
  cls : Nat
  requested : Nat
  floor : Nat
  prop : Option Proportion
  kind : WaitKind
  arrival : Nat
  entryTime : Nat
  deriving DecidableEq, Repr

/-- The Grant Arbiter (chapter 3). The permitted set, effective ceiling, load and headroom are computed from these
(Machine/Arbiter.lean). -/
structure Arbiter where
  grants : List GrantRecord
  waits : List WaitEntry
  /-- requests that have reached the arbiter since reset (R42) -/
  arrivals : Nat
  shedLevel : Nat
  stage : Nat
  ceilings : Vector Nat 5
  /-- seconds -/
  barrierAge : Nat
  deriving DecidableEq, Repr

/-- The arbiter's notices (R56). `removed` is what OSFS alone is told when a release removes a record (R50). A RAISED
notice says whether it left the Wait List (`full`). -/
inductive GrantNotice
  | granted (ma : Nat) (duty : Option Nat)
  | partGranted (ma : Nat) (duty : Option Nat)
  | raised (ma : Nat) (duty : Option Nat) (full : Bool)
  | reduced (ma : Nat) (duty : Option Nat)
  | revoked
  | withdrawn
  | waiting
  | removed
  deriving DecidableEq, Repr

/-- The output stage's notices to an owner (R80). -/
inductive StageNotice | cut | latched | restored | cleared | dropped
  deriving DecidableEq, Repr

/-- A notice on its way to the owner of an output. -/
inductive Notice
  | grant (out : OutId) (notice : GrantNotice)
  | stage (out : OutId) (notice : StageNotice)
  deriving DecidableEq, Repr

/-! ## Chapter 4: the output stages -/

/-- The drive setting of a demand (section 4.1). -/
inductive Drive
  | duty (perMille : Nat)
  | on
  | polarity (opening : Bool)
  | motor (axis : Axis) (direction : Direction)
  deriving DecidableEq, Repr

inductive RetryPhase
  | timing (left : Nat)
  | asked
  deriving DecidableEq, Repr

inductive Driven
  | off
  | on
  | cutWait (phase : RetryPhase)
  | latched
  deriving DecidableEq, Repr

/-- The grant an output stage holds, as the latest notice gives it (section 4.3). -/
structure Allotment where
  ma : Nat
  duty : Option Nat
  deriving DecidableEq, Repr

/-- A copy of a grant request kept for a cut output (section 4.3). -/
structure HeldRequest where
  cls : Nat
  requested : Nat
  floor : Nat
  prop : Option Proportion
  deriving DecidableEq, Repr

/-- One output record (section 4.3). A demand of `none` is OFF. -/
structure Output where
  demand : Option Drive
  grant : Option Allotment
  driven : Driven
  heldRequest : Option HeldRequest
  /-- measured current, mA -/
  current : Nat
  load : LoadRecord
  overTimer : Option Nat
  openTimer : Option Nat
  deriving DecidableEq, Repr

inductive FaultState | clear | active | retrying | latched
  deriving DecidableEq, Repr

/-- One Fault Table record (section 4.7); `clean` is the record's clean timer (R74). -/
structure FaultRecord where
  state : FaultState
  attempts : Nat
  occurrences : Nat
  /-- uptime in seconds of the last occurrence -/
  stamp : Option Nat
  clean : Nat
  deriving DecidableEq, Repr

/-- The Output Stages and Fault Supervisor (chapter 4). -/
structure Stages where
  outs : Vector Output 12
  /-- record 3 × output + cause (section 4.7) -/
  faults : Vector FaultRecord 36
  /-- record 36, THERMAL -/
  thermal : FaultRecord
  stage : Nat
  /-- a first T_DIE computation has been made since reset (R79) -/
  staged : Bool
  lastDie : Reading
  /-- HFAN's duty of the present PWM period (R62) -/
  fanDuty : Nat
  deriving DecidableEq, Repr

/-! ## Chapter 5: the lights -/

/-- The fade in progress (R88): target, N ticks, ticks done, and the start duty once its start boundary has come
(`none` while it waits for that boundary); `clock` is the time since the start boundary. -/
structure Fade where
  target : Nat
  ticks : Nat
  done : Nat
  start : Option Nat
  clock : Nat
  deriving DecidableEq, Repr

/-- The channel's own copy of its grant (section 5.1), with the rated mA carried in it. -/
structure Cover where
  ma : Nat
  duty : Nat
  deriving DecidableEq, Repr

/-- A lowering of the covering grant due at the next boundary (R84). -/
inductive Lowering
  | toNone
  | to (cover : Cover)
  deriving DecidableEq, Repr

inductive Stance | none | waiting | part | full | cut
  deriving DecidableEq, Repr

/-- One light channel (section 5.1). -/
structure Light where
  wanted : Nat
  aim : Nat
  fadeTime : Nat
  applied : Nat
  pending : Option Nat
  fade : Option Fade
  cover : Option Cover
  lowering : Option Lowering
  stance : Stance
  deriving DecidableEq, Repr

/-- The courtesy state of L5 (section 5.6). -/
inductive Courtesy
  | idle
  | holding (left : Nat)
  | fadingOut
  deriving DecidableEq, Repr

/-- The Lighting Controller (chapter 5). -/
structure Lights where
  channels : Vector Light 6
  courtesy : Courtesy
  /-- L4's forced mark (R98) -/
  forced : Bool
  deriving DecidableEq, Repr

/-! ## Chapter 6: the heater -/

inductive PurgeReason | start | stray | ignitionFail | flameLoss | demandOff | revoked | fault
  deriving DecidableEq, Repr

inductive LockoutReason | ignition | flameLoss | hbrnFault | hfanFault
  deriving DecidableEq, Repr

/-- Where a purge leads; a LOCKOUT keeps with it the reason to be recorded (R114). -/
inductive AfterPurge
  | off
  | reignite
  | lockout (reason : LockoutReason)
  deriving DecidableEq, Repr

/-- The purge in progress (section 6.3). `seconds` is the purge time. -/
structure Purge where
  reason : PurgeReason
  seconds : Nat
  clock : Nat
  after : AfterPurge
  deriving DecidableEq, Repr

/-- The heater state with what belongs to it alone (section 6.3). -/
inductive Heater
  | off
  | awaitGrant
  | igniting (timer : Nat)
  | running
  | purging (purge : Purge)
  | lockout (reason : LockoutReason)
  deriving DecidableEq, Repr

/-- The six heater states by name, as events and tables carry them (R106). -/
inductive HeaterPhase | off | awaitGrant | igniting | running | purging | lockout
  deriving DecidableEq, Repr

/-- The Climate Controller (chapter 6). -/
structure Climate where
  mode : ClimateMode
  setpoint : Nat
  adopted : ClimateSetup
  cabin : Reading
  water : Reading
  cabinDemand : Bool
  waterDemand : Bool
  /-- the debounced flame state: SEEN (R105) -/
  flame : Bool
  heater : Heater
  failures : Nat
  /-- uptime in seconds of the last counted flame loss (R112) -/
  firstLoss : Option Nat
  fanWanted : Nat
  deriving DecidableEq, Repr

/-! ## Chapter 7: the water system -/

/-- One tank's filter record (section 7.1); `none` is UNKNOWN, or absent for the candidate. -/
structure Tank where
  accepted : Option Nat
  candidate : Option Nat
  run : Nat
  invalid : Nat
  /-- the slosh length last used (R139) -/
  slosh : Nat
  deriving DecidableEq, Repr

inductive PumpState | idle | waiting | running | held | dryStop | limitStop
  deriving DecidableEq, Repr

/-- The frost timer (section 7.5). -/
inductive FrostTimer
  | stopped
  | running (elapsed : Nat)
  | expired
  deriving DecidableEq, Repr

/-- A drain pulse (R133): whether its first GRANTED has come, whether the 2 s pulse is complete, and its two clocks. -/
structure DrainPulse where
  started : Bool
  complete : Bool
  clock : Nat
  confirm : Nat
  deriving DecidableEq, Repr

/-- The drain state (section 7.6). -/
inductive Drain
  | closed
  | opening (pulse : DrainPulse)
  | opened
  | closing (pulse : DrainPulse)
  | fault
  deriving DecidableEq, Repr

/-- The five drain states by name. -/
inductive DrainState | closed | opening | opened | closing | fault
  deriving DecidableEq, Repr

/-- The Water Controller (chapter 7). -/
structure Water where
  fresh : Tank
  grey : Tank
  greyFull : Bool
  below : Nat
  /-- the debounced pressure switch: CLOSED (R125) -/
  psw : Bool
  pump : PumpState
  dryLatch : Bool
  limitLatch : Bool
  dryTimer : Option Nat
  runTimer : Option Nat
  waterCopy : Reading
  heaterCopy : HeaterPhase
  frost : FrostTimer
  drain : Drain
  /-- the debounced drain position (R132) -/
  position : DrainPos
  adopted : WaterSetup
  deriving DecidableEq, Repr

/-! ## Chapter 9: the vehicle condition -/

inductive Condition | parked | ready | driving | dormant
  deriving DecidableEq, Repr

inductive WakeReason | ign | door | psw | frame | frost | shed | thermal
  deriving DecidableEq, Repr

inductive ResetKind | powerOn | brownOut | restart
  deriving DecidableEq, Repr

/-- The Start Record (R175). `fromDefaults` is the set of setup tables loaded as defaults. -/
structure StartRecord where
  kind : ResetKind
  fromDefaults : FlagSet
  before : Option Condition
  interrupted : Option SetupId
  deriving DecidableEq, Repr

/-- The Vehicle Condition Unit (chapter 9). -/
structure Vehicle where
  condition : Condition
  ign : Bool
  dplus : Bool
  /-- OPEN -/
  door : Bool
  /-- the silence timer; `none` while STOPPED (R168) -/
  silence : Option Nat
  justWoken : Bool
  lastWake : Option (WakeReason × Nat)
  /-- the uptime at which DORMANT was last entered (for R172's time DORMANT) -/
  dormantAt : Nat
  /-- the uptime, ms (R175) -/
  uptime : Nat
  startRecord : StartRecord
  /-- a RESTART has been taken and its reply is on its way (R174) -/
  restarting : Bool
  deriving DecidableEq, Repr

/-! ## Chapter 8: the axes -/

inductive AxisState | retracted | extending | extended | retracting | part | unknown
  deriving DecidableEq, Repr

/-- One axis record (section 8.1). A switch is `true` for CLOSED; AWN has no extended switch and keeps it `false`. -/
structure AxisRecord where
  state : AxisState
  position : Option Nat
  retractedSwitch : Bool
  extendedSwitch : Bool
  deriving DecidableEq, Repr

inductive AutoReason | ignition | wind | door
  deriving DecidableEq, Repr

inductive Origin
  | host
  | auto (reason : AutoReason)
  deriving DecidableEq, Repr

/-- One Motion Queue entry (section 8.2). -/
structure QueueEntry where
  axis : Axis
  direction : Direction
  origin : Origin
  entryTime : Nat
  deriving DecidableEq, Repr

/-- The move the stage holds (section 8.3). -/
structure HeldMove where
  entry : QueueEntry
  pauseLeft : Nat
  stallTimer : Option Nat
  jamTimer : Nat
  count : Nat
  /-- the position was known at the drive start -/
  known : Bool
  deriving DecidableEq, Repr

/-- The motor stage (section 8.3). ASKING names the axis of the entry its standing request describes. -/
inductive MotorStage
  | idle
  | asking (axis : Axis)
  | pausing (move : HeldMove)
  | driving (move : HeldMove)
  | held
  deriving DecidableEq, Repr

/-- The Motion Controller (chapter 8). -/
structure Motion where
  awn : AxisRecord
  step : AxisRecord
  queue : List QueueEntry
  stage : MotorStage
  last : Option (Axis × Direction)
  adopted : MotionSetup
  /-- the last wind speed, 0.1 m/s -/
  speed : Option Nat
  /-- the last six over-limit flags, oldest first -/
  window : List Bool
  /-- the hold time left while the wind hold is active -/
  windHold : Option Nat
  /-- the condition that MCTL last took (R160) -/
  condition : Condition
  /-- the depart-warning line -/
  depart : Bool
  deriving DecidableEq, Repr

/-! ## Chapter 10: the Cause Set and the link -/

/-- The fourteen causes in the order of section 10.6. -/
inductive Cause
  | start | bank | grant | fault | thermal | motion | depart | water | drain | heater | vehicle | wake | link | store
  deriving DecidableEq, Repr

/-- R32. `reasons`: SHED 0, CONFIDENCE 1. -/
structure BankDetail where
  shedLevel : Nat
  socLevel : Nat
  voltageLevel : Nat
  confidence : Confidence
  reasons : FlagSet
  deriving DecidableEq, Repr

/-- R57. -/
structure GrantDetail where
  revoked : FlagSet
  reduced : FlagSet
  shedLevel : Nat
  stage : Nat
  ceiling : Nat
  deriving DecidableEq, Repr

/-- R75. -/
structure FaultDetail where
  outs : FlagSet
  out : OutId
  cause : FaultCause
  state : FaultState
  attempts : Nat
  current : Nat
  deriving DecidableEq, Repr

/-- R79. -/
structure ThermalDetail where
  stage : Nat
  die : Reading
  deriving DecidableEq, Repr

/-- The outcomes of a move, with SWITCH for a change of R142 (section 8.4, R161). -/
inductive MoveOutcome | done | stopped | stall | jam | overrun | preempted | denied | switch
  deriving DecidableEq, Repr

/-- The causes of an outcome, in the order of section 8.4's table. -/
inductive MoveCause | host | cut | latched | ignition | wind | door | revoked | expired | condition | unknown
  deriving DecidableEq, Repr

/-- R161. -/
structure MotionDetail where
  axes : FlagSet
  axis : Axis
  direction : Option Direction
  origin : Option Origin
  outcome : MoveOutcome
  cause : Option MoveCause
  state : AxisState
  position : Option Nat
  deriving DecidableEq, Repr

/-- R160. -/
structure DepartDetail where
  asserted : Bool
  condition : Condition
  axes : FlagSet
  deriving DecidableEq, Repr

/-- R129. `reasons`: FRESH 0, GREY-FULL 1, HOLD 2, DRY-STOP 3, LIMIT-STOP 4, RE-ARM 5; `holds`: grey full 0, drain 1,
fresh UNKNOWN 2. -/
structure WaterDetail where
  reasons : FlagSet
  fresh : Option Nat
  grey : Option Nat
  greyFull : Bool
  pump : PumpState
  holds : FlagSet
  deriving DecidableEq, Repr

inductive DrainReason | frost | host | confirmed | noConfirm | outputLatched | start
  deriving DecidableEq, Repr

/-- R137. -/
structure DrainDetail where
  state : DrainState
  before : DrainState
  reason : DrainReason
  position : DrainPos
  water : Reading
  deriving DecidableEq, Repr

/-- R116. -/
structure HeaterDetail where
  reason : LockoutReason
  before : HeaterPhase
  failures : Nat
  /-- seconds -/
  uptime : Nat
  deriving DecidableEq, Repr

/-- R167. -/
structure VehicleDetail where
  condition : Condition
  before : Condition
  ign : Bool
  dplus : Bool
  /-- seconds -/
  uptime : Nat
  deriving DecidableEq, Repr

/-- R172. -/
structure WakeDetail where
  reasons : FlagSet
  latest : WakeReason
  /-- seconds -/
  uptime : Nat
  /-- seconds -/
  dormantFor : Nat
  deriving DecidableEq, Repr

/-- LINK's reasons (R190): CHECK 0, FRAME 1, BROADCAST 2. -/
inductive LinkReason | check | frame | broadcast
  deriving DecidableEq, Repr

/-- R190. -/
structure LinkDetail where
  reasons : FlagSet
  count : Nat
  latest : LinkReason
  addr : Option Byte
  kind : Option Byte
  deriving DecidableEq, Repr

inductive StorePhase | erase | write | verify
  deriving DecidableEq, Repr

/-- The outcome of a store that ended, and STORE's detail (R178). -/
structure StoreOutcome where
  table : SetupId
  ok : Bool
  phase : Option StorePhase
  record : Option Nat
  deriving DecidableEq, Repr

/-- The Cause Set (section 10.6): a cause is latched exactly while its detail is present. -/
structure CauseSet where
  start : Option StartRecord
  bank : Option BankDetail
  grant : Option GrantDetail
  fault : Option FaultDetail
  thermal : Option ThermalDetail
  motion : Option MotionDetail
  depart : Option DepartDetail
  water : Option WaterDetail
  drain : Option DrainDetail
  heater : Option HeaterDetail
  vehicle : Option VehicleDetail
  wake : Option WakeDetail
  link : Option LinkDetail
  store : Option StoreOutcome
  deriving DecidableEq, Repr

/-- The receiver (R181). A frame in reception is kept from its ADDR byte on. -/
inductive Receiver
  | hunting
  | receiving (bytes : List Byte)
  | ignoring
  deriving DecidableEq, Repr

/-- The reply being sent (section 10.1), from KIND on; LEN and CHECK follow from it. -/
structure Reply where
  kind : Byte
  status : Byte
  summary : Byte
  payload : List Byte
  deriving DecidableEq, Repr

/-- A read or write cursor (R186, R187). -/
structure Cursor where
  table : Nat
  index : Nat
  deriving DecidableEq, Repr

/-- The Link Interface (chapter 10). -/
structure Link where
  receiver : Receiver
  /-- the silence since the last byte -/
  gap : Nat
  /-- the reply being sent; the receiver is off meanwhile (R181) -/
  sending : Option Reply
  /-- RELEASE-ATTN has been taken and its test, with which its reply is built, is still to come (R192); the receiver is off
  meanwhile (R182) -/
  releasing : Bool
  readCursor : Cursor
  writeCursor : Cursor
  causes : CauseSet
  mask : FlagSet
  /-- the attention-busy latch; the attention line is asserted exactly while it is set (R192) -/
  busy : Bool
  auxWanted : Bool
  live : Tables
  /-- the unit address taken from the straps at reset completion -/
  unit : BitVec 2
  deriving DecidableEq, Repr

/-! ## The blocks that exchange grants, notices, causes and conditions -/

/-- The arbiter, the output stages, the four job blocks, the vehicle unit and the link. `inbox` holds the notices on
their way to owners (the model's own field: empty between commands); `free` counts the free values used (the model's
own field, log entry 3). -/
structure Works where
  arbiter : Arbiter
  stages : Stages
  lights : Lights
  climate : Climate
  water : Water
  motion : Motion
  vehicle : Vehicle
  link : Link
  inbox : List Notice
  free : Nat
  deriving DecidableEq, Repr

/-! ## Chapter 9: the Settings Store -/

/-- One stored copy: its records, how many of them are written, and whether its check is good. -/
structure StoredCopy (α : Type) where
  image : α
  written : Nat
  good : Bool
  deriving DecidableEq, Repr

/-- The nine stored copies (section 9.7). -/
structure StoredTables where
  bank : StoredCopy BankSetup
  shed : StoredCopy ShedSetup
  load : StoredCopy LoadTable
  scenes : StoredCopy SceneTable
  climate : StoredCopy ClimateSetup
  water : StoredCopy WaterSetup
  motion : StoredCopy MotionSetup
  channel : StoredCopy ChannelSetup
  link : StoredCopy LinkSetup
  deriving DecidableEq, Repr

/-- A running store (R177): its table, phase, the records written so far, the time in the phase, and the live tables as
they stood when it was taken (the copy it stores from). -/
structure StoreRun where
  table : SetupId
  phase : StorePhase
  record : Nat
  clock : Nat
  copy : Tables
  deriving DecidableEq, Repr

/-- The Settings Store (section 9.7). -/
structure Settings where
  stored : StoredTables
  run : Option StoreRun
  last : Option StoreOutcome
  deriving DecidableEq, Repr

/-! ## The whole part -/

/-- The debounce runs of the digital inputs: the time since a run against the present state began (R105, R125, R132,
R141, R166); the drain position's run names the position it is for. -/
structure Runs where
  ign : Option Nat
  dplus : Option Nat
  door : Option Nat
  flame : Option Nat
  psw : Option Nat
  drain : Option (DrainPos × Nat)
  awnRetracted : Option Nat
  stepRetracted : Option Nat
  stepExtended : Option Nat
  deriving DecidableEq, Repr

/-- The state of the part and the queue of commands waiting for it, first in first out. -/
structure State where
  pending : List Instr
  /-- the supply is above the operating level (R173) -/
  powered : Bool
  inputs : Inputs
  runs : Runs
  scanner : Scanner
  account : Account
  works : Works
  settings : Settings
  deriving DecidableEq, Repr

/-- No command of the part faults: every chapter gives each event and request an effect in every state, and a host
request that the spec refuses is answered with a refusal STATUS, which is a next state. Nobody raises a fault. -/
inductive Fault
  deriving DecidableEq, Repr

/-- Why a command has no meaning. -/
inductive Refusal
  /-- Raised by an arm of `exec` for a command of the table that has no meaning yet. Safe: the machine stops. No arm
  raises it. -/
  | notModelled (mnemonic : String)
  deriving DecidableEq, Repr

/-! ## The machine right after reset -/

/-- The pins of a parked, resting vehicle: what the model presents at reset until the outside world says otherwise
(DESIGN CHOICE, log entry 2). -/
def quietInputs : Inputs where
  straps := 0
  ign := false
  dplus := false
  door := false
  flame := false
  psw := false
  drainOpenContact := false
  drainClosedContact := true
  awnRetracted := true
  stepRetracted := true
  stepExtended := false
  loads := Vector.replicate 12 .normal
  currents := Vector.replicate 12 0
  bv := 12800
  bi := 0
  tBank := 200
  tCabin := 200
  tWater := 200
  tDie := 300
  fresh25 := true
  fresh50 := true
  fresh75 := false
  fresh100 := false
  greyHalf := false
  greyFull := false
  storeGood := true

/-- No debounce run (R166 and its fellows: an input is taken directly at reset completion, with no run). -/
def Runs.none : Runs := ⟨.none, .none, .none, .none, .none, .none, .none, .none, .none⟩

/-- R14: the scanner after every reset, with no pass in hand. That it holds the loaded CHANNEL-SETUP as adopted before the
first pass start adopts a table is the model's choice (DESIGN CHOICE, log entry 2). -/
def Scanner.start (setup : ChannelSetup) : Scanner where
  channels := Vector.replicate 9 ⟨.invalid, 0, none⟩
  adopted := setup
  passCounter := 0
  period := 500
  passLength := 500
  untilPass := 500
  windCount := 0
  windSample := none
  windLength := 500
  awaited := 0

/-- R38: the account after a POWER-ON, with the loaded tables. -/
def Account.start (bank : BankSetup) (shed : ShedSetup) : Account where
  bank := bank
  shedSetup := shed
  heldCapacity := bank.capacity
  q := 0
  confidence := .unknown
  throughput := 0
  restClock := none
  restTaken := false
  fullClock := none
  s := 0
  coldPenalty := 0
  margin := 0
  sEff := 0
  socLevel := 0
  voltageLevel := 0
  lowCount := 0
  cutCount := 0
  releaseCount := 0
  shedLevel := 0
  bankTemp := .invalid
  saturated := false
  lastTable := none
  lastIncrement := 0
  lastBv := .invalid
  lastBi := .invalid

/-- R61: the arbiter after every reset, at the shed level the account holds and with the loaded SHED-SETUP. -/
def Arbiter.start (shedLevel : Nat) (setup : ShedSetup) : Arbiter where
  grants := []
  waits := []
  arrivals := 0
  shedLevel := shedLevel
  stage := 0
  ceilings := setup.ceilings
  barrierAge := setup.barrierAge

/-- R83: an output after every reset kind, with its loaded record; its driven state is OFF, or LATCHED where a RESTART
keeps a latch. -/
def Output.start (load : LoadRecord) (driven : Driven) : Output where
  demand := none
  grant := none
  driven := driven
  heldRequest := none
  current := 0
  load := load
  overTimer := none
  openTimer := none

/-- R83: a Fault Table record made CLEAR with nothing kept. -/
def FaultRecord.blank : FaultRecord := ⟨.clear, 0, 0, none, 0⟩

/-- R83: the output stages after a POWER-ON with a load table whose records are given output by output. -/
def Stages.start (outs : Vector Output 12) : Stages where
  outs := outs
  faults := Vector.replicate 36 .blank
  thermal := .blank
  stage := 0
  staged := false
  lastDie := .invalid
  fanDuty := 0

/-- R100: a light channel after every reset kind. -/
def Light.start (stance : Stance) : Light where
  wanted := 0
  aim := 0
  fadeTime := 0
  applied := 0
  pending := none
  fade := none
  cover := none
  lowering := none
  stance := stance

/-- R140: a tank filter after every reset kind; that the slosh length last used starts at 6 is the model's choice (DESIGN
CHOICE, log entry 2). -/
def Tank.start : Tank := ⟨none, none, 0, 0, 6⟩

/-- R122: the climate block after a reset that gives it the heater state `heater` and the flame state `flame`. R122 gives
mode and setpoint alone; that the adopted CLIMATE-SETUP is the loaded table until the first T_CABIN publication is the
model's choice (DESIGN CHOICE, log entry 2). -/
def Climate.start (setup : ClimateSetup) (flame : Bool) (heater : Heater) : Climate where
  mode := setup.startMode
  setpoint := setup.startSetpoint
  adopted := setup
  cabin := .invalid
  water := .invalid
  cabinDemand := false
  waterDemand := false
  flame := flame
  heater := heater
  failures := 0
  firstLoss := none
  fanWanted := 0

/-- R140: the water block after every reset kind. The frost condition holds then, so its timer runs from 0. -/
def Water.start (setup : WaterSetup) (psw : Bool) (position : DrainPos) (drain : Drain) (heater : HeaterPhase) :
    Water where
  fresh := .start
  grey := .start
  greyFull := false
  below := 0
  psw := psw
  pump := .idle
  dryLatch := false
  limitLatch := false
  dryTimer := none
  runTimer := none
  waterCopy := .invalid
  heaterCopy := heater
  frost := .running 0
  drain := drain
  position := position
  adopted := setup

/-- R165: the motion block after every reset kind, before R142 and R158 act at start. -/
def Motion.start (setup : MotionSetup) (awn step : AxisRecord) (stage : MotorStage) (condition : Condition) :
    Motion where
  awn := awn
  step := step
  queue := []
  stage := stage
  last := none
  adopted := setup
  speed := none
  window := List.replicate 6 false
  windHold := none
  condition := condition
  depart := false

/-- The empty Cause Set. -/
def CauseSet.empty : CauseSet :=
  ⟨none, none, none, none, none, none, none, none, none, none, none, none, none, none⟩

/-- R194: the link after every reset kind; START is latched with the Start Record, and busy is set where START is in the
mask (bit 0). -/
def Link.start (live : Tables) (unit : BitVec 2) (record : StartRecord) : Link where
  receiver := .hunting
  gap := 0
  sending := none
  releasing := false
  readCursor := ⟨0, 0⟩
  writeCursor := ⟨0, 0⟩
  causes := { CauseSet.empty with start := some record }
  mask := live.link.startMask
  busy := live.link.startMask.getLsbD 0
  auxWanted := false
  live := live
  unit := unit

/-- R175: the vehicle unit at reset completion. -/
def Vehicle.start (condition : Condition) (ign dplus door : Bool) (record : StartRecord) : Vehicle where
  condition := condition
  ign := ign
  dplus := dplus
  door := door
  silence := if condition = .parked then some 0 else none
  justWoken := false
  lastWake := none
  dormantAt := 0
  uptime := 0
  startRecord := record
  restarting := false

/-- A store memory whose nine checks are all bad: nothing has ever been stored (DESIGN CHOICE, log entry 2). -/
def StoredTables.blank : StoredTables where
  bank := ⟨defaultBank, 0, false⟩
  shed := ⟨defaultShed .lead, 0, false⟩
  load := ⟨defaultLoad, 0, false⟩
  scenes := ⟨defaultScenes, 0, false⟩
  climate := ⟨defaultClimate, 0, false⟩
  water := ⟨defaultWater, 0, false⟩
  motion := ⟨defaultMotion, 0, false⟩
  channel := ⟨defaultChannel, 0, false⟩
  link := ⟨defaultLink, 0, false⟩

/-- The Start Record of a first POWER-ON: all nine tables from defaults (R175, R176). -/
def StartRecord.first : StartRecord := ⟨.powerOn, 0x01FF#16, none, none⟩

/-- The machine right after reset: a POWER-ON of a parked, resting vehicle with nothing stored, every field as R14, R38,
R61, R83, R100, R122, R140, R165, R175, R176 and R194 give it. What the spec leaves open (the pins, the store's
contents, fields with no reset value) is in log entry 2. -/
def State.reset : State where
  pending := []
  powered := true
  inputs := quietInputs
  runs := .none
  scanner := .start defaultChannel
  account := .start defaultBank (defaultShed .lead)
  works := {
    arbiter := .start 0 (defaultShed .lead)
    stages := .start ⟨(defaultLoad.toList.map fun r => Output.start r .off).toArray, by simp⟩
    lights := ⟨Vector.replicate 6 (.start .none), .idle, false⟩
    climate := .start defaultClimate false .off
    water := .start defaultWater false .closed .closed .off
    motion := .start defaultMotion ⟨.retracted, some 0, true, false⟩ ⟨.retracted, some 0, true, false⟩ .idle .parked
    vehicle := .start .parked false false false .first
    link := .start defaultTables 0 .first
    inbox := []
    free := 0 }
  settings := ⟨.blank, none, none⟩

end Sys2Proof.Machine
end

