-- ==== Sys2Proof/Machine/Operands.lean ====
section
/-! DEFINITION. The operand forms of the link: the value encodings of R196 (integers, sets, optional fields), read and
written, and the codes of the named values, each numbered in the order its chapter first lists it (R196; the choices
that order leaves open are log entry 13). -/

namespace Sys2Proof.Machine

/-! ## Writing values, most significant byte first (R196) -/

/-- U8. -/
def u8 (n : Nat) : List Byte := [BitVec.ofNat 8 n]

/-- U16. -/
def u16 (n : Nat) : List Byte := [BitVec.ofNat 8 (n / 256), BitVec.ofNat 8 n]

/-- U32. -/
def u32 (n : Nat) : List Byte := u16 (n / 65536) ++ u16 n

/-- U48. -/
def u48 (n : Nat) : List Byte := u16 (n / 4294967296) ++ u32 n

/-- S16: two's complement. -/
def s16 (x : Int) : List Byte := u16 (x % 65536).toNat

/-- S32: two's complement. -/
def s32 (x : Int) : List Byte := u32 (x % 4294967296).toNat

/-- SET. -/
def setBytes (s : FlagSet) : List Byte := bytesOf s

/-- A flag: 0 false, 1 true. -/
def flag (b : Bool) : List Byte := u8 (if b then 1 else 0)

/-- An optional field: its presence byte, then its value bytes, which are 0 when it is absent. -/
def optional {α : Type} (size : Nat) (write : α → List Byte) : Option α → List Byte
  | some x => 1 :: write x
  | none => 0 :: List.replicate size 0

def optU8 : Option Nat → List Byte := optional 1 u8

def optU16 : Option Nat → List Byte := optional 2 u16

def optU32 : Option Nat → List Byte := optional 4 u32

def optS16 : Option Int → List Byte := optional 2 s16

def optS32 : Option Int → List Byte := optional 4 s32

/-- A list of varying length: its count, then its fixed number of slots, the unused ones 0. -/
def slots {α : Type} (size room : Nat) (write : α → List Byte) (xs : List α) : List Byte :=
  u8 xs.length ++ xs.flatMap write ++ List.replicate (size * (room - xs.length)) 0

/-! ## Reading values -/

/-- The value of bytes, most significant first. -/
def unsignedOf (bytes : List Byte) : Nat := bytes.foldl (fun n b => n * 256 + b.toNat) 0

/-- The two's complement value of bytes. -/
def signedOf (bytes : List Byte) : Int :=
  let n := unsignedOf bytes
  let whole := 256 ^ bytes.length
  if whole ≤ 2 * n then (n : Int) - whole else n

/-- `size` bytes at an offset of a record. -/
def fieldBytes (record : List Byte) (offset size : Nat) : List Byte := (record.drop offset).take size

def fieldNat (record : List Byte) (offset size : Nat) : Nat := unsignedOf (fieldBytes record offset size)

def fieldInt (record : List Byte) (offset size : Nat) : Int := signedOf (fieldBytes record offset size)

/-- What an optional field of a written record gives: nothing, a value, or a presence byte that is neither 0 nor 1 (a
structural fault). -/
inductive Given
  | absent
  | value (n : Nat)
  | bad
  deriving DecidableEq, Repr

/-- An optional field at an offset: its presence byte and its value bytes. -/
def fieldGiven (record : List Byte) (offset size : Nat) : Given :=
  match fieldNat record offset 1 with
  | 0 => .absent
  | 1 => .value (fieldNat record (offset + 1) size)
  | _ => .bad

/-- A record list cut into whole records of a size. -/
def chunks (size : Nat) (bytes : List Byte) : Nat → List (List Byte)
  | 0 => []
  | n + 1 => bytes.take size :: chunks size (bytes.drop size) n

/-! ## Codes (R196) -/

def axisCode : Axis → Nat
  | .awn => 0
  | .step => 1

def axisOf : Nat → Option Axis
  | 0 => some .awn
  | 1 => some .step
  | _ => none

def directionCode : Direction → Nat
  | .extend => 0
  | .retract => 1

def directionOf : Nat → Option Direction
  | 0 => some .extend
  | 1 => some .retract
  | _ => none

def faultCauseOf : Nat → Option FaultCause
  | 0 => some .overcurrent
  | 1 => some .short
  | 2 => some .openLoad
  | _ => none

def positionCode : DrainPos → Nat
  | .opened => 0
  | .closed => 1
  | .neither => 2

/-- ON 0, OFF 1 (sections 8.9, 9.1 and 10.5 list ON first). -/
def onCode (on : Bool) : Nat := if on then 0 else 1

/-- CLOSED 0, OPEN 1 (R125, section 8.1). -/
def closedCode (closed : Bool) : Nat := if closed then 0 else 1

/-- OPEN 0, CLOSED 1 (R166). -/
def openCode (opened : Bool) : Nat := if opened then 0 else 1

def Chemistry.code : Chemistry → Nat
  | .lead => 0
  | .lithium => 1

def Chemistry.ofCode : Nat → Option Chemistry
  | 0 => some .lead
  | 1 => some .lithium
  | _ => none

def FaultMode.code : FaultMode → Nat
  | .report => 0 | .retryFast => 1 | .retrySlow => 2 | .latch => 3 | .ignore => 4

def FaultMode.ofCode : Nat → Option FaultMode
  | 0 => some .report | 1 => some .retryFast | 2 => some .retrySlow | 3 => some .latch | 4 => some .ignore | _ => none

def ClimateMode.code : ClimateMode → Nat
  | .off => 0 | .comfort => 1 | .eco => 2 | .frost => 3

def ClimateMode.ofCode : Nat → Option ClimateMode
  | 0 => some .off | 1 => some .comfort | 2 => some .eco | 3 => some .frost | _ => none

/-- VALID 0, HELD 1, INVALID 2 (section 1.2). -/
def Reading.validity : Reading → Nat
  | .valid _ => 0 | .held _ => 1 | .invalid => 2

def Reading.value? : Reading → Option Int
  | .valid v => some v
  | .held v => some v
  | .invalid => none

def Confidence.code : Confidence → Nat
  | .unknown => 0 | .estimated => 1 | .calibrated => 2 | .drifted => 3

def TableKind.code : TableKind → Nat
  | .estimate => 0 | .rest => 1 | .restSkipped => 2

def WaitKind.code : WaitKind → Nat
  | .new => 0 | .topUp => 1

def Driven.code : Driven → Nat
  | .off => 0 | .on => 1 | .cutWait _ => 2 | .latched => 3

def FaultState.code : FaultState → Nat
  | .clear => 0 | .active => 1 | .retrying => 2 | .latched => 3

def HeaterPhase.code : HeaterPhase → Nat
  | .off => 0 | .awaitGrant => 1 | .igniting => 2 | .running => 3 | .purging => 4 | .lockout => 5

/-- The heater state of a code, counted round its six values: what a free value names (log entry 3). -/
def HeaterPhase.ofCode (n : Nat) : HeaterPhase :=
  match n % 6 with
  | 0 => .off | 1 => .awaitGrant | 2 => .igniting | 3 => .running | 4 => .purging | _ => .lockout

def PurgeReason.code : PurgeReason → Nat
  | .start => 0 | .stray => 1 | .ignitionFail => 2 | .flameLoss => 3 | .demandOff => 4 | .revoked => 5 | .fault => 6

def AfterPurge.code : AfterPurge → Nat
  | .off => 0 | .reignite => 1 | .lockout _ => 2

def LockoutReason.code : LockoutReason → Nat
  | .ignition => 0 | .flameLoss => 1 | .hbrnFault => 2 | .hfanFault => 3

def PumpState.code : PumpState → Nat
  | .idle => 0 | .waiting => 1 | .running => 2 | .held => 3 | .dryStop => 4 | .limitStop => 5

def FrostTimer.code : FrostTimer → Nat
  | .stopped => 0 | .running _ => 1 | .expired => 2

def DrainState.code : DrainState → Nat
  | .closed => 0 | .opening => 1 | .opened => 2 | .closing => 3 | .fault => 4

/-- The drain state of a code, counted round its five values: what a free value names (log entry 3). -/
def DrainState.ofCode (n : Nat) : DrainState :=
  match n % 5 with
  | 0 => .closed | 1 => .opening | 2 => .opened | 3 => .closing | _ => .fault

def DrainReason.code : DrainReason → Nat
  | .frost => 0 | .host => 1 | .confirmed => 2 | .noConfirm => 3 | .outputLatched => 4 | .start => 5

def AxisState.code : AxisState → Nat
  | .retracted => 0 | .extending => 1 | .extended => 2 | .retracting => 3 | .part => 4 | .unknown => 5

def Origin.code : Origin → Nat
  | .host => 0
  | .auto _ => 1

def AutoReason.code : AutoReason → Nat
  | .ignition => 0 | .wind => 1 | .door => 2

def Origin.reason? : Origin → Option AutoReason
  | .host => none
  | .auto r => some r

def MotorStage.code : MotorStage → Nat
  | .idle => 0 | .asking _ => 1 | .pausing _ => 2 | .driving _ => 3 | .held => 4

/-- The outcomes in the order of R149's list; SWITCH, which R142 and R161 name apart from it, comes after them as 7 (DEDUCED, log
entry 13). -/
def MoveOutcome.code : MoveOutcome → Nat
  | .done => 0 | .stopped => 1 | .stall => 2 | .jam => 3 | .overrun => 4 | .preempted => 5 | .denied => 6 | .switch => 7

def MoveCause.code : MoveCause → Nat
  | .host => 0 | .cut => 1 | .latched => 2 | .ignition => 3 | .wind => 4 | .door => 5 | .revoked => 6 | .expired => 7
  | .condition => 8 | .unknown => 9

def Condition.code : Condition → Nat
  | .parked => 0 | .ready => 1 | .driving => 2 | .dormant => 3

def ResetKind.code : ResetKind → Nat
  | .powerOn => 0 | .brownOut => 1 | .restart => 2

def StorePhase.code : StorePhase → Nat
  | .erase => 0 | .write => 1 | .verify => 2

/-- The owner of an output (section 3.3), numbered as that table first lists them: LCTL 0, WCTL 1, CCTL 2, MCTL 3,
LINK 4. -/
def ownerCode (o : OutId) : Nat :=
  match o.val with
  | 6 => 1
  | 7 => 2
  | 8 => 2
  | 9 => 1
  | 10 => 3
  | 11 => 4
  | _ => 0

/-- A Reading: its validity, then its value as an optional S32 (section 11.6). -/
def readingBytes (r : Reading) : List Byte := u8 r.validity ++ optS32 r.value?

end Sys2Proof.Machine
end

