-- ==== Sys2Proof/Machine/Ops.lean ====
section
/-! DEFINITION. Shared operations: the arithmetic words of section 3.2 of the opening chapter, sets, the accessors and
updates of one output, one Fault Table record and one light, and the FIFO of notices on their way to owners. -/

namespace Sys2Proof.Machine

/-! ## Arithmetic words -/

/-- A value clamped to a range (section 3.2). -/
def clamp (low high x : Nat) : Nat := max low (min high x)

/-- A signed value clamped to a range (section 3.2). -/
def clampInt (low high x : Int) : Int := max low (min high x)

/-- A count that saturates (section 4.7: attempts and occurrences stop at 255). -/
def saturate (limit x : Nat) : Nat := min limit x

/-- A clock that runs has reached a limit. -/
def reached (t : Option Nat) (limit : Nat) : Bool :=
  match t with
  | some t => decide (limit ≤ t)
  | none => false

/-! ## Sets -/

/-- The set with member i added. -/
def FlagSet.insert (s : FlagSet) (i : Nat) : FlagSet := s ||| BitVec.ofNat 16 (2 ^ i)

/-- The set of one member. -/
def FlagSet.single (i : Nat) : FlagSet := BitVec.ofNat 16 (2 ^ i)

/-- The set of the members whose flags stand, the first being member 0. -/
def FlagSet.ofFlags : List Bool → FlagSet
  | [] => 0
  | b :: rest => (if b then 1 else 0) ||| (FlagSet.ofFlags rest) <<< 1

/-- The set of some outputs, by output index (R196). -/
def FlagSet.ofOuts (outs : List OutId) : FlagSet := outs.foldl (fun s o => FlagSet.insert s o.val) 0

/-! ## Vectors -/

/-- Every entry of a vector changed alike. -/
def vmap {α β : Type} {n : Nat} (f : α → β) (v : Vector α n) : Vector β n := ⟨(v.toList.map f).toArray, by simp⟩

/-- Every entry of a vector changed alike, knowing its index. -/
def vmapIdx {α β : Type} {n : Nat} (f : Nat → α → β) (v : Vector α n) : Vector β n :=
  ⟨((v.toList.zipIdx).map fun p => f p.2 p.1).toArray, by simp⟩

/-- The outputs in index order. -/
def allOuts : List OutId := [0, 1, 2, 3, 4, 5, 6, 7, 8, 9, 10, 11]

/-- The light channels in order. -/
def allLights : List LightId := [0, 1, 2, 3, 4, 5]

/-! ## Names of outputs (section 4.1) -/

def PUMP : OutId := 6
def HFAN : OutId := 7
def HBRN : OutId := 8
def DRAIN : OutId := 9
def MOTOR : OutId := 10
def AUX : OutId := 11

/-- The output of a light channel: outputs 0 to 5 are L1 to L6 (section 4.1). -/
def lightOut (ch : LightId) : OutId := ⟨ch.val, by omega⟩

/-- The light channel of an output, where it is one. -/
def outLight? (o : OutId) : Option LightId := if h : o.val < 6 then some ⟨o.val, h⟩ else none

/-- L4, the outdoor light (section 5.7). -/
def L4 : LightId := 3

/-- L5, the entry light (section 5.6). -/
def L5 : LightId := 4

/-! ## Readings -/

/-- The value of a usable Reading (VALID or HELD); an INVALID Reading has none (section 2.1). -/
def Reading.usable : Reading → Option Int
  | .valid v => some v
  | .held v => some v
  | .invalid => none

/-! ## Fault causes -/

/-- The cause's number c in the Fault Table (section 4.7). -/
def causeIndex : FaultCause → Nat
  | .overcurrent => 0
  | .short => 1
  | .openLoad => 2

/-- Fault Table record 3 × output + cause (section 4.7). -/
def faultIndex (o : OutId) (c : FaultCause) : Fin 36 :=
  ⟨3 * o.val + causeIndex c, by have := o.isLt; cases c <;> simp [causeIndex] <;> omega⟩

/-! ## Accessors and updates of the works -/

/-- The uptime in whole seconds (R175). -/
def Works.seconds (w : Works) : Nat := w.vehicle.uptime / 1000

def Works.out (w : Works) (o : OutId) : Output := w.stages.outs[o]

def Works.modOut (w : Works) (o : OutId) (f : Output → Output) : Works :=
  { w with stages := { w.stages with outs := w.stages.outs.set o (f w.stages.outs[o]) } }

def Works.fault (w : Works) (o : OutId) (c : FaultCause) : FaultRecord := w.stages.faults[faultIndex o c]

def Works.modFault (w : Works) (o : OutId) (c : FaultCause) (f : FaultRecord → FaultRecord) : Works :=
  { w with stages := { w.stages with
      faults := w.stages.faults.set (faultIndex o c) (f w.stages.faults[faultIndex o c]) } }

/-- The three records of an output changed alike. -/
def Works.modFaults (w : Works) (o : OutId) (f : FaultRecord → FaultRecord) : Works :=
  ((w.modFault o .overcurrent f).modFault o .short f).modFault o .openLoad f

def Works.light (w : Works) (ch : LightId) : Light := w.lights.channels[ch]

def Works.modLight (w : Works) (ch : LightId) (f : Light → Light) : Works :=
  { w with lights := { w.lights with channels := w.lights.channels.set ch (f w.lights.channels[ch]) } }

/-- A notice joins the FIFO of notices on their way to owners (log entry 4). -/
def Works.tell (w : Works) (n : Notice) : Works := { w with inbox := w.inbox ++ [n] }

/-- The next free value (log entry 3), and the works with its use counted. -/
def Works.takeFree (w : Works) : Nat × Works := (Config.freeCode w.free, { w with free := w.free + 1 })

/-! ## Outputs by driven state -/

/-- The output is switched on. -/
def Output.isOn (x : Output) : Bool := match x.driven with | .on => true | _ => false

def Output.isLatched (x : Output) : Bool := match x.driven with | .latched => true | _ => false

/-- CUT-WAIT or LATCHED: its owner's requests reach OSFS in place of GARB (R66). -/
def Output.isCut (x : Output) : Bool := match x.driven with | .cutWait _ => true | .latched => true | _ => false

/-! ## Names of states -/

def Heater.phase : Heater → HeaterPhase
  | .off => .off
  | .awaitGrant => .awaitGrant
  | .igniting _ => .igniting
  | .running => .running
  | .purging _ => .purging
  | .lockout _ => .lockout

def Drain.state : Drain → DrainState
  | .closed => .closed
  | .opening _ => .opening
  | .opened => .opened
  | .closing _ => .closing
  | .fault => .fault

def Motion.axis (m : Motion) : Axis → AxisRecord
  | .awn => m.awn
  | .step => m.step

/-- The adopted travel of an axis (section 8.9). -/
def MotionSetup.travel (t : MotionSetup) : Axis → Nat
  | .awn => t.awnTravel
  | .step => t.stepTravel

/-- The adopted stall threshold of an axis (section 8.9). -/
def MotionSetup.stall (t : MotionSetup) : Axis → Nat
  | .awn => t.awnStall
  | .step => t.stepStall

/-- The move the stage holds, in PAUSING or DRIVING. -/
def MotorStage.move? : MotorStage → Option HeldMove
  | .pausing m => some m
  | .driving m => some m
  | _ => none

end Sys2Proof.Machine
end

