-- ==== Sys2Proof/Machine/Arbiter.lean ====
section
/-! DEFINITION. The Grant Arbiter (chapter 3): each of its events as one function of its lists, answering the notices it
gives in the order it gives them. -/

namespace Sys2Proof.Machine

/-! ## Permitted classes, ceiling, load (sections 3.1 and 3.2) -/

/-- R40, first table. -/
def allowedByShed (level cls : Nat) : Bool :=
  match level with
  | 0 => decide (cls ≤ 3)
  | 1 => decide (cls ≤ 3)
  | 2 => decide (cls ≤ 2)
  | 3 => decide (cls ≤ 1)
  | _ => decide (cls = 0)

/-- R40, second table. -/
def allowedByStage (stage cls : Nat) : Bool :=
  match stage with
  | 0 => decide (cls ≤ 3)
  | 1 => decide (cls ≤ 3)
  | 2 => decide (cls = 0)
  | _ => false

/-- R40: the permitted set is the classes found in both tables for the two values held. -/
def Arbiter.permits (a : Arbiter) (cls : Nat) : Bool := allowedByShed a.shedLevel cls && allowedByStage a.stage cls

/-- R41: the effective ceiling is the adopted ceiling for the shed level last taken. -/
def Arbiter.ceiling (a : Arbiter) : Nat := a.ceilings.toList.getD a.shedLevel 0

/-- What a grant counts against the ceiling (R41): class 0 counts nothing. -/
def GrantRecord.counted (r : GrantRecord) : Nat := if r.cls = 0 then 0 else r.ma

/-- R41: the load of a Grant List. -/
def loadOf : List GrantRecord → Nat
  | [] => 0
  | r :: rest => r.counted + loadOf rest

def Arbiter.load (a : Arbiter) : Nat := loadOf a.grants

/-- R41: headroom is the effective ceiling less the load; it is never below 0 between operations. -/
def Arbiter.headroom (a : Arbiter) : Nat := a.ceiling - a.load

/-! ## Proportional loads (section 3.5) -/

/-- R45: the amount for a duty is ceil(R × d / 1000). -/
def amountFor (rated duty : Nat) : Nat := (rated * duty + 999) / 1000

/-- R45: the requested mA is the amount for the wanted duty. -/
def Proportion.requested (p : Proportion) : Nat := amountFor p.rated p.wanted

/-- R45: the floor mA is the smaller of the amount for the floor duty and the requested mA. -/
def Proportion.floorMa (p : Proportion) : Nat := min (amountFor p.rated p.floor) p.requested

/-- R45: the fitting duty for an available amount h is min(W, floor(h × 1000 / R)); a rated 0 always fits. -/
def Proportion.fitting (p : Proportion) (h : Nat) : Nat :=
  if p.rated = 0 then p.wanted else min p.wanted (h * 1000 / p.rated)

/-- A request's fit within an available amount. -/
inductive Fit
  | full
  | part (duty : Nat)
  | no
  deriving DecidableEq, Repr

/-- Full where the requested mA is within h; in part, for a proportional load, where the floor mA is (R46, R48, R51). -/
def fitOf (requested floor : Nat) (prop : Option Proportion) (h : Nat) : Fit :=
  if requested ≤ h then .full
  else match prop with
    | none => .no
    | some p => if floor ≤ h then .part (p.fitting h) else .no

/-- The duty that a grant in full covers: the wanted duty of a proportional load. -/
def fullDuty (prop : Option Proportion) : Option Nat := prop.map (·.wanted)

/-- The mA of a part grant: the amount for the fitting duty (R45). -/
def partMa (prop : Option Proportion) (duty : Nat) : Nat := (prop.map fun p => amountFor p.rated duty).getD 0

/-! ## The two lists (section 3.4) -/

def Arbiter.grantOf (a : Arbiter) (o : OutId) : Option GrantRecord := a.grants.find? fun r => r.out == o

def Arbiter.waitOf (a : Arbiter) (o : OutId) : Option WaitEntry := a.waits.find? fun e => e.out == o

/-- The output stands as the companion of an entry. -/
def WaitEntry.hasCompanion (e : WaitEntry) (o : OutId) : Bool :=
  match e.companion with
  | some c => c.out == o
  | none => false

/-- The entry without its companion where that is the output. -/
def WaitEntry.strip (o : OutId) (e : WaitEntry) : WaitEntry :=
  if e.hasCompanion o then { e with companion := none } else e

/-- The output holds a grant, an entry, or a companion's standing. -/
def Arbiter.knows (a : Arbiter) (o : OutId) : Bool :=
  a.grants.any (fun r => r.out == o) || a.waits.any (fun e => e.out == o || e.hasCompanion o)

/-- R44: the order of the Wait List, by class and then by arrival (R42). -/
def WaitEntry.before (e f : WaitEntry) : Bool := decide (e.cls < f.cls) || (e.cls == f.cls && decide (e.arrival < f.arrival))

/-- An entry put in its place (R44). -/
def insertWait (e : WaitEntry) : List WaitEntry → List WaitEntry
  | [] => [e]
  | f :: rest => if e.before f then e :: f :: rest else f :: insertWait e rest

def withoutWait (o : OutId) (ws : List WaitEntry) : List WaitEntry := ws.filter fun e => e.out != o

def withoutGrant (o : OutId) (gs : List GrantRecord) : List GrantRecord := gs.filter fun r => r.out != o

/-- The record of an output changed in its place (R43). -/
def updateGrant (o : OutId) (f : GrantRecord → GrantRecord) (gs : List GrantRecord) : List GrantRecord :=
  gs.map fun r => if r.out == o then f r else r

/-- The Grant List record of a request granted `ma` at `duty`. -/
def GrantRequest.record (r : GrantRequest) (ma : Nat) (duty : Option Nat) (arrival : Nat) : GrantRecord :=
  ⟨r.out, r.cls, ma, duty, r.requested, r.floor, r.prop, arrival⟩

/-- The Wait List entry of a request. -/
def GrantRequest.entry (r : GrantRequest) (kind : WaitKind) (arrival entryTime : Nat) : WaitEntry :=
  ⟨r.out, r.companion, r.cls, r.requested, r.floor, r.prop, kind, arrival, entryTime⟩

/-- R47: a companion's record has requested mA and floor mA equal to the companion mA. -/
def Companion.record (c : Companion) (arrival : Nat) : GrantRecord :=
  ⟨c.out, c.cls, c.ma, fullDuty c.prop, c.ma, c.ma, c.prop, arrival⟩

/-- The notices of one operation, in the order it gives them. -/
abbrev Notices := List (OutId × GrantNotice)

/-- How a request is answered (R46 to R49); `toStage` is an owner's request that reached OSFS instead (R66). -/
inductive Answer | granted | part | waiting | toStage
  deriving DecidableEq, Repr

/-! ## Wait List service (section 3.8) -/

/-- What a scan does with one entry (R51). -/
inductive Service
  /-- served in full: the entry leaves -/
  | leaves (grants : List GrantRecord) (notices : Notices)
  /-- served in part: the entry stays, as given -/
  | stays (grants : List GrantRecord) (entry : WaitEntry) (notices : Notices)
  /-- passed over for its class -/
  | passed
  | noFit

/-- The record of an entry granted from NEW. -/
def WaitEntry.record (e : WaitEntry) (ma : Nat) (duty : Option Nat) : GrantRecord :=
  ⟨e.out, e.cls, ma, duty, e.requested, e.floor, e.prop, e.arrival⟩

/-- What a class 1 to 3 part counts against the headroom; a class 0 part adds nothing (R47). -/
def partCount (cls ma : Nat) : Nat := if cls = 0 then 0 else ma

/-- R51, the table of results, for the Grant List `gs` as the scan has left it. -/
def Arbiter.serveOne (a : Arbiter) (gs : List GrantRecord) (e : WaitEntry) : Service :=
  let headroom := a.ceiling - loadOf gs
  match e.companion with
  | some c =>
    if !(a.permits e.cls && a.permits c.cls) then .passed
    else if partCount e.cls e.requested + partCount c.cls c.ma ≤ headroom then
      .leaves (gs ++ [e.record e.requested (fullDuty e.prop), c.record e.arrival])
        [(e.out, .granted e.requested (fullDuty e.prop)), (c.out, .granted c.ma (fullDuty c.prop))]
    else .noFit
  | none =>
    if !a.permits e.cls then .passed
    else match e.kind with
    | .new =>
      if e.cls = 0 then
        .leaves (gs ++ [e.record e.requested (fullDuty e.prop)]) [(e.out, .granted e.requested (fullDuty e.prop))]
      else match fitOf e.requested e.floor e.prop headroom with
        | .full =>
          .leaves (gs ++ [e.record e.requested (fullDuty e.prop)]) [(e.out, .granted e.requested (fullDuty e.prop))]
        | .part d =>
          .stays (gs ++ [e.record (partMa e.prop d) (some d)]) { e with kind := .topUp }
            [(e.out, .partGranted (partMa e.prop d) (some d))]
        | .no => .noFit
    | .topUp =>
      match gs.find? fun r => r.out == e.out with
      | none => .noFit
      | some r =>
        let h := headroom + r.counted
        if r.cls = 0 ∨ e.requested ≤ h then
          .leaves (updateGrant e.out (fun r => { r with ma := e.requested, duty := fullDuty e.prop }) gs)
            [(e.out, .raised e.requested (fullDuty e.prop) true)]
        else match e.prop with
          | none => .noFit
          | some p =>
            if r.duty.getD 0 < p.fitting h then
              .stays (updateGrant e.out (fun r => { r with ma := amountFor p.rated (p.fitting h), duty := some (p.fitting h) }) gs)
                e [(e.out, .raised (amountFor p.rated (p.fitting h)) (some (p.fitting h)) false)]
            else .noFit

/-- R52: the entry has been on the list for at least the adopted barrier age. -/
def Arbiter.isBarrier (a : Arbiter) (now : Nat) (e : WaitEntry) : Bool :=
  decide (a.barrierAge * 1000 ≤ now - e.entryTime)

/-- One scan of the Wait List, first to last (R51), stopped by the barrier (R52): the Grant List, the entries left, and
the notices. -/
def Arbiter.scan (a : Arbiter) (now : Nat) : List WaitEntry → List GrantRecord →
    List GrantRecord × List WaitEntry × Notices
  | [], gs => (gs, [], [])
  | e :: rest, gs =>
    match a.serveOne gs e with
    | .leaves gs' ns =>
      let r := a.scan now rest gs'
      (r.1, r.2.1, ns ++ r.2.2)
    | .stays gs' e' ns =>
      let r := a.scan now rest gs'
      (r.1, e' :: r.2.1, ns ++ r.2.2)
    | .passed =>
      let r := a.scan now rest gs
      (r.1, e :: r.2.1, r.2.2)
    | .noFit =>
      if a.isBarrier now e then (gs, e :: rest, [])
      else
        let r := a.scan now rest gs
        (r.1, e :: r.2.1, r.2.2)

/-- A Wait List service (R51). -/
def Arbiter.serve (a : Arbiter) (now : Nat) : Arbiter × Notices :=
  let r := a.scan now a.waits a.grants
  ({ a with grants := r.1, waits := r.2.1 }, r.2.2)

/-! ## A request arriving (section 3.6) -/

/-- R46 and R47: a request with no grant judged as an arrival, under the given arrival number and entry time. -/
def Arbiter.arrive (a : Arbiter) (r : GrantRequest) (arrival entryTime : Nat) : Arbiter × Notices × Answer :=
  match r.companion with
  | some c =>
    if a.permits r.cls && a.permits c.cls
        && decide (partCount r.cls r.requested + partCount c.cls c.ma ≤ a.headroom) then
      ({ a with grants := a.grants ++ [r.record r.requested (fullDuty r.prop) arrival, c.record arrival] },
        [(r.out, .granted r.requested (fullDuty r.prop)), (c.out, .granted c.ma (fullDuty c.prop))], .granted)
    else
      ({ a with waits := insertWait (r.entry .new arrival entryTime) a.waits }, [(r.out, .waiting)], .waiting)
  | none =>
    if !a.permits r.cls then
      ({ a with waits := insertWait (r.entry .new arrival entryTime) a.waits }, [(r.out, .waiting)], .waiting)
    else if r.cls = 0 then
      ({ a with grants := a.grants ++ [r.record r.requested (fullDuty r.prop) arrival] },
        [(r.out, .granted r.requested (fullDuty r.prop))], .granted)
    else match fitOf r.requested r.floor r.prop a.headroom with
      | .full =>
        ({ a with grants := a.grants ++ [r.record r.requested (fullDuty r.prop) arrival] },
          [(r.out, .granted r.requested (fullDuty r.prop))], .granted)
      | .part d =>
        ({ a with
            grants := a.grants ++ [r.record (partMa r.prop d) (some d) arrival]
            waits := insertWait (r.entry .topUp arrival entryTime) a.waits },
          [(r.out, .partGranted (partMa r.prop d) (some d))], .part)
      | .no =>
        ({ a with waits := insertWait (r.entry .new arrival entryTime) a.waits }, [(r.out, .waiting)], .waiting)

/-- R48: the replacement's last step, a service where the replacement lowered a class 1 to 3 grant. -/
def Arbiter.serveIf (a : Arbiter) (now : Nat) (due : Bool) (first : Notices) (ans : Answer) :
    Arbiter × Notices × Answer :=
  if due then
    let r := a.serve now
    (r.1, first ++ r.2, ans)
  else (a, first, ans)

/-- R48: a request for an output that holds the grant `old`. The record keeps its arrival number and its place. A service
follows where a class 1 to 3 record is given a lower amount or is removed; a class 0 replacement of an equal or larger
amount is none (DEDUCED, log entry 19). -/
def Arbiter.replace (a : Arbiter) (r : GrantRequest) (old : GrantRecord) (now : Nat) : Arbiter × Notices × Answer :=
  let h := if old.cls = 0 then a.headroom else a.headroom + old.ma
  let plain := { r with companion := none }
  let turnedAway : Arbiter × Notices × Answer :=
    { a with
        grants := withoutGrant r.out a.grants
        waits := insertWait (plain.entry .new old.arrival now) (withoutWait r.out a.waits) }.serveIf now true
      [(r.out, .withdrawn), (r.out, .waiting)] .waiting
  let inFull : Arbiter × Notices × Answer :=
    { a with
        grants := updateGrant r.out (fun _ => plain.record r.requested (fullDuty r.prop) old.arrival) a.grants
        waits := withoutWait r.out a.waits }.serveIf now (old.cls != 0 && decide (r.requested < old.ma))
      [(r.out, .granted r.requested (fullDuty r.prop))] .granted
  if !a.permits r.cls then turnedAway
  else if r.cls = 0 then inFull
  else match fitOf r.requested r.floor r.prop h with
    | .full => inFull
    | .part d =>
      let entryTime := ((a.waitOf r.out).map (·.entryTime)).getD now
      { a with
          grants := updateGrant r.out (fun _ => plain.record (partMa r.prop d) (some d) old.arrival) a.grants
          waits := insertWait (plain.entry .topUp old.arrival entryTime) (withoutWait r.out a.waits) }.serveIf now
        (old.cls != 0 && decide (partMa r.prop d < old.ma)) [(r.out, .partGranted (partMa r.prop d) (some d))] .part
    | .no => turnedAway

/-- R42, R46 to R49: a request reaches the arbiter. -/
def Arbiter.request (a₀ : Arbiter) (r : GrantRequest) (now : Nat) : Arbiter × Notices × Answer :=
  let a := { a₀ with arrivals := a₀.arrivals + 1 }
  match a.grantOf r.out with
  | some old => a.replace r old now
  | none =>
    match a.waitOf r.out with
    | some e => { a with waits := withoutWait r.out a.waits }.arrive r e.arrival e.entryTime
    | none => { a with waits := a.waits.map (WaitEntry.strip r.out) }.arrive r a.arrivals now

/-! ## Release and withdrawal (section 3.7) -/

/-- R50: a release removes the output's record, its entry and its companion's standing, then serves. -/
def Arbiter.release (a : Arbiter) (o : OutId) (now : Nat) : Arbiter × Notices :=
  let first : Notices := if (a.grantOf o).isSome then [(o, .removed)] else []
  let r := { a with
    grants := withoutGrant o a.grants
    waits := (withoutWait o a.waits).map (WaitEntry.strip o) }.serve now
  (r.1, first ++ r.2)

/-- R50: a withdrawal removes the output's entry or its companion's standing, keeping any grant, then serves. -/
def Arbiter.withdraw (a : Arbiter) (o : OutId) (now : Nat) : Arbiter × Notices :=
  { a with waits := (withoutWait o a.waits).map (WaitEntry.strip o) }.serve now

/-! ## Taking a shed level or thermal stage (section 3.9) -/

/-- Section 3.3: the light channels and AUX are host-driven; the others are job-owned. -/
def hostDriven (o : OutId) : Bool := decide (o.val < 6) || o == AUX

/-- The entry that a cut makes for a record (R56): its class, amounts, duties and arrival, at the present time. -/
def GrantRecord.entry (r : GrantRecord) (kind : WaitKind) (now : Nat) : WaitEntry :=
  ⟨r.out, none, r.cls, r.requested, r.floor, r.prop, kind, r.arrival, now⟩

/-- R56: one revocation of a cut. A host-driven output re-enters NEW; a job-owned one loses any TOP-UP entry. -/
def Arbiter.revoke (a : Arbiter) (now : Nat) (r : GrantRecord) : Arbiter :=
  let ws := withoutWait r.out a.waits
  { a with
    grants := withoutGrant r.out a.grants
    waits := if hostDriven r.out then insertWait (r.entry .new now) ws else ws }

/-- The ma and duty that step 2 of R54 leaves a proportional record with. -/
def reducedTo (p : Proportion) (r : GrantRecord) (ceiling load : Nat) : Nat × Nat :=
  let h := ceiling + r.ma - load
  if ceiling + r.ma ≤ load ∨ p.fitting h < p.floor then (r.floor, p.floor)
  else (amountFor p.rated (p.fitting h), p.fitting h)

/-- R54, step 2, at one record: its reduced ma and duty in place, and a TOP-UP entry made, or kept with the present time as
its entry time (R56). -/
def Arbiter.reduce (a : Arbiter) (now : Nat) (r : GrantRecord) (p : Proportion) : Arbiter × Nat × Nat :=
  let x := reducedTo p r a.ceiling a.load
  ({ a with
      grants := updateGrant r.out (fun r => { r with ma := x.1, duty := some x.2 }) a.grants
      waits := insertWait (r.entry .topUp now) (withoutWait r.out a.waits) }, x)

/-- What a cut has done so far. -/
structure Cut where
  arbiter : Arbiter
  notices : Notices
  revoked : List OutId
  reduced : List OutId

/-- R54, step 1: the records of classes no longer permitted, revoked in the order given. -/
def cutClasses (now : Nat) : List GrantRecord → Cut → Cut
  | [], c => c
  | r :: rest, c =>
    if c.arbiter.permits r.cls then cutClasses now rest c
    else cutClasses now rest
      { c with
        arbiter := c.arbiter.revoke now r
        notices := c.notices ++ [(r.out, .revoked)]
        revoked := c.revoked ++ [r.out] }

/-- R54, step 2: proportional grants above their floor mA, reduced in the order given while the load is too large. -/
def cutReduce (now : Nat) : List GrantRecord → Cut → Cut
  | [], c => c
  | r :: rest, c =>
    match r.prop with
    | none => cutReduce now rest c
    | some p =>
      if c.arbiter.load ≤ c.arbiter.ceiling then c
      else if r.ma ≤ r.floor then cutReduce now rest c
      else
        let x := c.arbiter.reduce now r p
        cutReduce now rest
          { c with
            arbiter := x.1
            notices := c.notices ++ [(r.out, .reduced x.2.1 (some x.2.2))]
            reduced := c.reduced ++ [r.out] }

/-- R54, step 3: grants revoked in the order given while the load is too large. -/
def cutRevoke (now : Nat) : List GrantRecord → Cut → Cut
  | [], c => c
  | r :: rest, c =>
    if c.arbiter.load ≤ c.arbiter.ceiling then c
    else cutRevoke now rest
      { c with
        arbiter := c.arbiter.revoke now r
        notices := c.notices ++ [(r.out, .revoked)]
        revoked := c.revoked ++ [r.out] }

/-- The order of steps 2 and 3 of R54: class 3, then 2, then 1, and within a class latest-granted first. -/
def cutOrder (gs : List GrantRecord) : List GrantRecord :=
  let latest := gs.reverse
  latest.filter (fun r => r.cls == 3) ++ latest.filter (fun r => r.cls == 2) ++ latest.filter (fun r => r.cls == 1)

/-- R54: a cut in its three steps. -/
def Arbiter.cut (a : Arbiter) (now : Nat) : Cut :=
  let c1 := cutClasses now a.grants.reverse ⟨a, [], [], []⟩
  let c2 := cutReduce now (cutOrder c1.arbiter.grants) c1
  cutRevoke now (cutOrder c2.arbiter.grants) c2

/-- Some class is permitted in `b` that was not in `a`. -/
def Arbiter.widened (a b : Arbiter) : Bool := [0, 1, 2, 3].any fun c => b.permits c && !a.permits c

/-- R53: after the new limits are recorded (`b` holds them, `a` is the arbiter before): cut, then serve where the ceiling
rose or a class became permitted. -/
def Arbiter.settle (a b : Arbiter) (now : Nat) : Cut :=
  let c := b.cut now
  if a.ceiling < b.ceiling || a.widened b then
    let r := c.arbiter.serve now
    { c with arbiter := r.1, notices := c.notices ++ r.2 }
  else c

/-- R53: a shed level publication or a setup notice, with the live SHED-SETUP. -/
def Arbiter.takeShed (a : Arbiter) (level : Nat) (setup : ShedSetup) (now : Nat) : Cut :=
  a.settle { a with shedLevel := level, ceilings := setup.ceilings, barrierAge := setup.barrierAge } now

/-- R53: a thermal stage publication. -/
def Arbiter.takeStage (a : Arbiter) (stage : Nat) (now : Nat) : Cut := a.settle { a with stage := stage } now

end Sys2Proof.Machine
end

