-- ==== Sys2Proof/Machine/Flags.lean ====
section
/-! DEFINITION. The flags of the part: the Cause Set's latches with their merging (each cause's posting rule), the
attention-busy latch they act on (R190, R192), and the SUMMARY byte of every reply (R184, R197). -/

namespace Sys2Proof.Machine

/-- A cause's number in the Cause Set (R196). -/
def Cause.index : Cause → Nat
  | .start => 0 | .bank => 1 | .grant => 2 | .fault => 3 | .thermal => 4 | .motion => 5 | .depart => 6
  | .water => 7 | .drain => 8 | .heater => 9 | .vehicle => 10 | .wake => 11 | .link => 12 | .store => 13

/-- The cause of a number; none outside the fourteen. -/
def Cause.ofIndex? : Nat → Option Cause
  | 0 => some .start | 1 => some .bank | 2 => some .grant | 3 => some .fault | 4 => some .thermal
  | 5 => some .motion | 6 => some .depart | 7 => some .water | 8 => some .drain | 9 => some .heater
  | 10 => some .vehicle | 11 => some .wake | 12 => some .link | 13 => some .store | _ => none

/-- Whether a cause is latched: exactly while its detail is present (section 10.6). -/
def CauseSet.isLatched (s : CauseSet) : Cause → Bool
  | .start => s.start.isSome | .bank => s.bank.isSome | .grant => s.grant.isSome | .fault => s.fault.isSome
  | .thermal => s.thermal.isSome | .motion => s.motion.isSome | .depart => s.depart.isSome
  | .water => s.water.isSome | .drain => s.drain.isSome | .heater => s.heater.isSome
  | .vehicle => s.vehicle.isSome | .wake => s.wake.isSome | .link => s.link.isSome | .store => s.store.isSome

/-- The fourteen causes in order. -/
def allCauseNames : List Cause :=
  [.start, .bank, .grant, .fault, .thermal, .motion, .depart, .water, .drain, .heater, .vehicle, .wake, .link, .store]

/-- The set of latched causes (R191). -/
def CauseSet.latchedSet (s : CauseSet) : FlagSet := FlagSet.ofFlags (allCauseNames.map s.isLatched)

/-- R191: the named causes cleared, flag and detail; a cause that is not latched is passed over. -/
def CauseSet.clear (s : CauseSet) (named : FlagSet) : CauseSet where
  start := if named.getLsbD 0 then none else s.start
  bank := if named.getLsbD 1 then none else s.bank
  grant := if named.getLsbD 2 then none else s.grant
  fault := if named.getLsbD 3 then none else s.fault
  thermal := if named.getLsbD 4 then none else s.thermal
  motion := if named.getLsbD 5 then none else s.motion
  depart := if named.getLsbD 6 then none else s.depart
  water := if named.getLsbD 7 then none else s.water
  drain := if named.getLsbD 8 then none else s.drain
  heater := if named.getLsbD 9 then none else s.heater
  vehicle := if named.getLsbD 10 then none else s.vehicle
  wake := if named.getLsbD 11 then none else s.wake
  link := if named.getLsbD 12 then none else s.link
  store := if named.getLsbD 13 then none else s.store

/-- A set names no code outside the fourteen causes (R188, R191, R192). -/
def causesOnly (s : FlagSet) : Bool := s &&& ~~~allCauses == 0

/-- R192: a posting of a cause in the mask while busy is clear sets busy; any other posting leaves busy as it is. -/
def Link.attend (l : Link) (c : Cause) : Link := { l with busy := l.busy || l.mask.getLsbD c.index }

/-- R192: the test of the Cause Set against the mask, as SET-MASK and the test after RELEASE-ATTN make it. -/
def Link.retest (l : Link) : Link := { l with busy := l.busy || (l.causes.latchedSet &&& l.mask != 0) }

/-- A posting (R190): the Cause Set with the detail set or merged, and the attention line acted on. -/
def Works.post (w : Works) (c : Cause) (causes : CauseSet) : Works :=
  { w with link := { w.link with causes := causes }.attend c }

/-- R32: the reasons join those already latched; the other fields are the latest. -/
def Works.postBank (w : Works) (d : BankDetail) : Works :=
  let s := w.link.causes
  w.post .bank { s with bank := some { d with reasons := d.reasons ||| ((s.bank.map (·.reasons)).getD 0) } }

/-- R57: the outputs join the sets already latched; level, stage and ceiling are the latest. -/
def Works.postGrant (w : Works) (d : GrantDetail) : Works :=
  let s := w.link.causes
  w.post .grant { s with grant := some { d with
    revoked := d.revoked ||| ((s.grant.map (·.revoked)).getD 0)
    reduced := d.reduced ||| ((s.grant.map (·.reduced)).getD 0) } }

/-- R75: the output joins the set since FAULT was last cleared; the latest-posting fields are replaced. -/
def Works.postFault (w : Works) (o : OutId) (c : FaultCause) (state : FaultState) (attempts current : Nat) : Works :=
  let s := w.link.causes
  let d : FaultDetail := ⟨FlagSet.insert ((s.fault.map (·.outs)).getD 0) o.val, o, c, state, attempts, current⟩
  w.post .fault { s with fault := some d }

/-- R79: the detail is replaced. -/
def Works.postThermal (w : Works) (d : ThermalDetail) : Works :=
  w.post .thermal { w.link.causes with thermal := some d }

/-- The number of an axis (R196): AWN 0, STEP 1. -/
def axisIndex : Axis → Nat
  | .awn => 0
  | .step => 1

/-- R161: the axis joins the set since MOTION was last cleared; the latest-posting fields are replaced. -/
def Works.postMotion (w : Works) (a : Axis) (direction : Option Direction) (origin : Option Origin)
    (outcome : MoveOutcome) (cause : Option MoveCause) : Works :=
  let s := w.link.causes
  let d : MotionDetail := ⟨FlagSet.insert ((s.motion.map (·.axes)).getD 0) (axisIndex a), a, direction, origin, outcome,
    cause, (w.motion.axis a).state, (w.motion.axis a).position⟩
  w.post .motion { s with motion := some d }

/-- R160: the detail is replaced. -/
def Works.postDepart (w : Works) (d : DepartDetail) : Works :=
  w.post .depart { w.link.causes with depart := some d }

/-- R129: the reasons join the set since WATER was last cleared; the other fields are the latest. -/
def Works.postWater (w : Works) (d : WaterDetail) : Works :=
  let s := w.link.causes
  w.post .water { s with water := some { d with reasons := d.reasons ||| ((s.water.map (·.reasons)).getD 0) } }

/-- R137: the detail is replaced. -/
def Works.postDrain (w : Works) (d : DrainDetail) : Works :=
  w.post .drain { w.link.causes with drain := some d }

/-- R116: the detail is replaced. -/
def Works.postHeater (w : Works) (d : HeaterDetail) : Works :=
  w.post .heater { w.link.causes with heater := some d }

/-- R167: the detail is replaced. -/
def Works.postVehicle (w : Works) (d : VehicleDetail) : Works :=
  w.post .vehicle { w.link.causes with vehicle := some d }

/-- A wake reason's number in R171's list. -/
def WakeReason.index : WakeReason → Nat
  | .ign => 0 | .door => 1 | .psw => 2 | .frame => 3 | .frost => 4 | .shed => 5 | .thermal => 6

/-- R172: the reason joins the set since WAKE was last cleared; the other fields are replaced. -/
def Works.postWake (w : Works) (reason : WakeReason) (uptime dormantFor : Nat) : Works :=
  let s := w.link.causes
  let d : WakeDetail := ⟨FlagSet.insert ((s.wake.map (·.reasons)).getD 0) reason.index, reason, uptime, dormantFor⟩
  w.post .wake { s with wake := some d }

/-- A LINK reason's number in R190's list. -/
def LinkReason.index : LinkReason → Nat
  | .check => 0 | .frame => 1 | .broadcast => 2

/-- R190: the reason joins the set, the count of frames goes up by one (saturating at 255), the latest is replaced. -/
def Works.postLink (w : Works) (reason : LinkReason) (addr kind : Option Byte) : Works :=
  let s := w.link.causes
  let d : LinkDetail := ⟨FlagSet.insert ((s.link.map (·.reasons)).getD 0) reason.index,
    saturate 255 (((s.link.map (·.count)).getD 0) + 1), reason, addr, kind⟩
  w.post .link { s with link := some d }

/-- R178: the detail is replaced. -/
def Works.postStore (w : Works) (d : StoreOutcome) : Works :=
  w.post .store { w.link.causes with store := some d }

/-! ## SUMMARY -/

/-- Whether any Fault Table record is LATCHED (R75). THERMAL is never LATCHED (R79). -/
def Stages.anyLatched (s : Stages) : Bool :=
  s.faults.toList.any (fun r => match r.state with | .latched => true | _ => false)

/-- The condition code of R184 and R197. A reply in DORMANT cannot arise (R184); its code would be PARKED's. -/
def Vehicle.code (v : Vehicle) : Nat :=
  match v.condition with
  | .parked => if v.justWoken then 3 else 0
  | .ready => 1
  | .driving => 2
  | .dormant => 0

/-- R197: bit 7 busy, bit 6 any cause latched, bit 5 any record LATCHED, bits 4 to 2 the shed level, bits 1 and 0 the
condition code. -/
def summaryByte (w : Works) (shedLevel : Nat) : Byte :=
  BitVec.ofNat 8 ((if w.link.busy then 128 else 0) + (if w.link.causes.latchedSet != 0 then 64 else 0)
    + (if w.stages.anyLatched then 32 else 0) + shedLevel * 4 + w.vehicle.code)

end Sys2Proof.Machine
end

