-- ==== Sys2Proof/Machine/Outputs.lean ====
section
/-! DEFINITION. The Output Stages and Fault Supervisor (chapter 4): the driven state of each output, what it takes of the
arbiter's notices, the routing of owners' requests (R66), cuts, retries and reports, and the thermal stage (R78). -/

namespace Sys2Proof.Machine

/-! ## Drive (R62, R65) -/

/-- The duty an output is driven at now: 0 while it is not driven; HFAN's is the duty of its present PWM period (R62). -/
def Works.onDuty (w : Works) (o : OutId) : Nat :=
  if (w.out o).isOn then
    match (w.out o).demand with
    | some (.duty d) => if o = HFAN then w.stages.fanDuty else d
    | some _ => 1000
    | none => 0
  else 0

/-- R65, OFF to ON: a grant, an ON demand and a thermal stage below 3 together switch the output on. -/
def Works.fixOn (w : Works) (o : OutId) : Works :=
  match (w.out o).driven with
  | .off =>
    if (w.out o).grant.isSome && (w.out o).demand.isSome && decide (w.stages.stage < 3) then
      w.modOut o fun x => { x with driven := .on }
    else w
  | _ => w

/-- What a record becomes when its output stops being driven: ACTIVE returns to CLEAR (R70) and the clean timer returns
to 0 (R74). -/
def FaultRecord.undriven (r : FaultRecord) : FaultRecord :=
  { r with
    state := match r.state with | .active => .clear | x => x
    clean := 0 }

/-- An ON output leaves ON: its timers stop, its measured current is 0 (R67 to R70, R74). -/
def Works.stopDriving (w : Works) (o : OutId) (driven : Driven) : Works :=
  let w := (w.modOut o fun x => { x with driven := driven, current := 0, overTimer := none, openTimer := none }).modFaults
    o .undriven
  if o = HFAN then { w with stages := { w.stages with fanDuty := 0 } } else w

/-- R65, ON to OFF. -/
def Works.switchOff (w : Works) (o : OutId) : Works := if (w.out o).isOn then w.stopDriving o .off else w

/-- An owner's demand (R62, R65). A duty that becomes 0 stops the open timer and the measured current (R67, R69). -/
def Works.setDemand (w : Works) (o : OutId) (d : Option Drive) : Works :=
  let w := w.modOut o fun x => { x with
    demand := d
    current := match d with | some (.duty 0) => if o = HFAN then x.current else 0 | _ => x.current
    openTimer := match d with | some (.duty 0) => none | _ => x.openTimer }
  match d with
  | none => w.switchOff o
  | some _ => w.fixOn o

/-! ## The arbiter's notices at OSFS (R56, R65, R73, R80) -/

/-- OSFS takes a notice for an output; the owner's copy of it joins the notices on their way, and RESTORED after it
where the output leaves CUT-WAIT with the grant (R73). -/
def Works.takeNotice (w : Works) (o : OutId) (n : GrantNotice) : Works :=
  let granted (ma : Nat) (duty : Option Nat) : Works :=
    let wasCut := (w.out o).isCut
    let w1 := w.modOut o fun x => { x with
      grant := some ⟨ma, duty⟩
      driven := if wasCut then .off else x.driven
      heldRequest := if wasCut then none else x.heldRequest }
    let w2 := (w1.fixOn o).tell (.grant o n)
    if wasCut then w2.tell (.stage o .restored) else w2
  let changed (ma : Nat) (duty : Option Nat) : Works :=
    (w.modOut o fun x => { x with grant := some ⟨ma, duty⟩ }).tell (.grant o n)
  let taken : Works := (w.switchOff o).modOut o fun x => { x with grant := none }
  match n with
  | .granted ma duty => granted ma duty
  | .partGranted ma duty => granted ma duty
  | .raised ma duty _ => changed ma duty
  | .reduced ma duty => changed ma duty
  | .revoked => taken.tell (.grant o n)
  | .withdrawn => taken.tell (.grant o n)
  | .waiting => w.tell (.grant o n)
  | .removed => taken

/-- The notices of one operation of the arbiter, in the order it gives them (R56). -/
def Works.takeNotices (w : Works) : Notices → Works
  | [] => w
  | (o, n) :: rest => (w.takeNotice o n).takeNotices rest

/-- The arbiter after an operation, and its notices. -/
def Works.afterArbiter (w : Works) (r : Arbiter × Notices) : Works := { w with arbiter := r.1 }.takeNotices r.2

/-- A request reaches the arbiter (section 3.6). -/
def Works.garbRequest (w : Works) (r : GrantRequest) : Works × Answer :=
  let x := w.arbiter.request r w.vehicle.uptime
  (w.afterArbiter (x.1, x.2.1), x.2.2)

def Works.garbRelease (w : Works) (o : OutId) : Works := w.afterArbiter (w.arbiter.release o w.vehicle.uptime)

def Works.garbWithdraw (w : Works) (o : OutId) : Works := w.afterArbiter (w.arbiter.withdraw o w.vehicle.uptime)

/-- R57: a cut that revokes or reduces posts GRANT once. -/
def Works.postCut (w : Works) (c : Cut) : Works :=
  if c.revoked.isEmpty && c.reduced.isEmpty then w
  else w.postGrant ⟨FlagSet.ofOuts c.revoked, FlagSet.ofOuts c.reduced, w.arbiter.shedLevel, w.arbiter.stage,
    w.arbiter.ceiling⟩

/-- The arbiter takes new limits (R53): its notices are taken, then GRANT is posted. -/
def Works.afterTaking (w : Works) (c : Cut) : Works := (w.afterArbiter (c.arbiter, c.notices)).postCut c

/-! ## Adoption and routing (R64, R66) -/

/-- R64: an owner's request adopts the live record whole. -/
def Works.adopt (w : Works) (o : OutId) : Works := w.modOut o fun x => { x with load := w.link.live.load[o] }

/-- R64: a retry request adopts the live protection fields. -/
def Works.adoptLimits (w : Works) (o : OutId) : Works :=
  let live := w.link.live.load[o]
  w.modOut o fun x => { x with load := { x.load with
    trip := live.trip
    dwell := live.dwell
    openThreshold := live.openThreshold
    overcurrentMode := live.overcurrentMode
    shortMode := live.shortMode
    openMode := live.openMode } }

def GrantRequest.held (r : GrantRequest) : HeldRequest := ⟨r.cls, r.requested, r.floor, r.prop⟩

/-- A grant request that repeats a held one. -/
def HeldRequest.request (h : HeldRequest) (o : OutId) : GrantRequest := ⟨o, h.cls, h.requested, h.floor, h.prop, none⟩

/-- R66: an owner's request; for a cut output it replaces the held request, and in ASKED it is passed on. -/
def Works.ask (w : Works) (r : GrantRequest) : Works × Answer :=
  match (w.out r.out).driven with
  | .cutWait .asked => (((w.modOut r.out fun x => { x with heldRequest := some r.held }).garbRequest r).1, .toStage)
  | .cutWait (.timing _) => (w.modOut r.out fun x => { x with heldRequest := some r.held }, .toStage)
  | .latched => (w.modOut r.out fun x => { x with heldRequest := some r.held }, .toStage)
  | _ => w.garbRequest r

/-- R66: a release or withdrawal of a cut output drops its held request; in ASKED the entry goes too and the output
becomes OFF. -/
def Works.dropHeld (w : Works) (o : OutId) : Works :=
  match (w.out o).driven with
  | .cutWait .asked =>
    ((w.garbRelease o).modOut o fun x => { x with heldRequest := none, driven := .off }).tell (.stage o .dropped)
  | _ => w.modOut o fun x => { x with heldRequest := none }

/-- An owner's release (R50, R66). -/
def Works.release (w : Works) (o : OutId) : Works := if (w.out o).isCut then w.dropHeld o else w.garbRelease o

/-- An owner's withdrawal (R50, R66). -/
def Works.withdraw (w : Works) (o : OutId) : Works := if (w.out o).isCut then w.dropHeld o else w.garbWithdraw o

/-! ## Fault causes and modes (R68 to R75) -/

/-- The mode that an adopted record gives a cause; an output with no OPEN mode ignores the cause. -/
def LoadRecord.mode (l : LoadRecord) : FaultCause → FaultMode
  | .overcurrent => l.overcurrentMode
  | .short => l.shortMode
  | .openLoad => l.openMode.getD .ignore

/-- One more occurrence, stamped (R70, R71). -/
def FaultRecord.count (r : FaultRecord) (seconds : Nat) : FaultRecord :=
  { r with occurrences := saturate 255 (r.occurrences + 1), stamp := some seconds }

/-- The request a cut copies from the output's Grant List record (R71). -/
def Works.heldFor (w : Works) (o : OutId) : Option HeldRequest :=
  (w.arbiter.grantOf o).map fun r => ⟨r.cls, r.requested, r.floor, r.prop⟩

/-- The retry time of a cutting mode, in ms (section 4.6). -/
def FaultMode.retryTime : FaultMode → Nat
  | .retrySlow => 30000
  | _ => 1000

/-- R71, item 5: whether a cut latches, given the attempts it has reached. -/
def FaultMode.latches (m : FaultMode) (attempts : Nat) : Bool :=
  match m with
  | .latch => true
  | .retryFast => decide (4 ≤ attempts)
  | _ => false

/-- R71: an occurrence under a cutting mode, at a measured current. -/
def Works.cutOutput (w : Works) (o : OutId) (c : FaultCause) (m : FaultMode) (current : Nat) : Works :=
  let held := w.heldFor o
  let w := w.stopDriving o .off
  let w := w.modOut o fun x => { x with heldRequest := held }
  let w := w.garbRelease o
  let attempts := saturate 255 ((w.fault o c).attempts + 1)
  let latched := m.latches attempts
  let state : FaultState := if latched then .latched else .retrying
  let w := w.modFault o c fun r => { r.count w.seconds with attempts := attempts, state := state }
  let w := w.modOut o fun x => { x with driven := if latched then .latched else .cutWait (.timing m.retryTime) }
  (w.tell (.stage o (if latched then .latched else .cut))).postFault o c state attempts current

/-- R70: an occurrence under REPORT. -/
def Works.report (w : Works) (o : OutId) (c : FaultCause) (current : Nat) : Works :=
  let w := w.modFault o c fun r => { r.count w.seconds with
    state := match r.state with | .clear => .active | x => x }
  w.postFault o c (w.fault o c).state (w.fault o c).attempts current

/-- An occurrence, acted on in the mode the adopted record gives (R70, R71). -/
def Works.occurrence (w : Works) (o : OutId) (c : FaultCause) (current : Nat) : Works :=
  match (w.out o).load.mode c with
  | .report => w.report o c current
  | .ignore => w.modFault o c fun r => r.count w.seconds
  | m => w.cutOutput o c m current

/-- R74: a start of a record's timer returns a RETRYING record's clean timer to 0. -/
def Works.resetClean (w : Works) (o : OutId) (c : FaultCause) : Works := w.modFault o c fun r => { r with clean := 0 }

/-- R70: an ACTIVE record whose condition is no longer met returns to CLEAR. -/
def Works.conditionGone (w : Works) (o : OutId) (c : FaultCause) : Works :=
  w.modFault o c fun r => match r.state with | .active => { r with state := .clear } | _ => r

/-- The interval of the refreshes, in ms (R67). -/
def refreshInterval : Nat := 10

/-- The open window of an output, in ms (R69). -/
def openWindow (o : OutId) : Nat := if o = DRAIN then 1000 else 2000

/-- R68, the over-trip timer at a refresh not above twice trip. -/
def Works.overTest (w : Works) (o : OutId) (current : Nat) : Works :=
  let x := w.out o
  if x.load.trip < current then
    match x.overTimer with
    | none => (w.modOut o fun x => { x with overTimer := some 0 }).resetClean o .overcurrent
    | some t =>
      if x.load.dwell ≤ t + refreshInterval then
        (w.modOut o fun x => { x with overTimer := none }).occurrence o .overcurrent current
      else w.modOut o fun x => { x with overTimer := some (t + refreshInterval) }
  else (w.modOut o fun x => { x with overTimer := none }).conditionGone o .overcurrent

/-- R68, SHORT and OVERCURRENT at a refresh. -/
def Works.tripTest (w : Works) (o : OutId) (current : Nat) : Works :=
  if 2 * (w.out o).load.trip < current then (w.resetClean o .short).occurrence o .short current
  else w.overTest o current

/-- R69, the open test at a refresh. -/
def Works.openTest (w : Works) (o : OutId) (current : Nat) : Works :=
  let x := w.out o
  match x.load.openThreshold with
  | none => w
  | some threshold =>
    if current < threshold then
      match x.openTimer with
      | none => (w.modOut o fun x => { x with openTimer := some 0 }).resetClean o .openLoad
      | some t =>
        if openWindow o ≤ t + refreshInterval then
          (w.modOut o fun x => { x with openTimer := none }).occurrence o .openLoad current
        else w.modOut o fun x => { x with openTimer := some (t + refreshInterval) }
    else (w.modOut o fun x => { x with openTimer := none }).conditionGone o .openLoad

/-- R67 to R69: a refresh of one output's measured current, and its tests. The trip test comes first, and where it cut the output
there is no open test (R82 leaves the order open; DEDUCED, log entry 18). -/
def Works.refresh (w : Works) (o : OutId) (milliamps : Nat) : Works :=
  if w.onDuty o = 0 then w.modOut o fun x => { x with current := 0, overTimer := none, openTimer := none }
  else
    let current := min 40000 milliamps
    let w := (w.modOut o fun x => { x with current := current }).tripTest o current
    if (w.out o).isOn then w.openTest o current else w

/-- A retry request (R73, R77): the protection fields are adopted, the phase becomes ASKED and the request goes to the
arbiter. -/
def Works.sendRetry (w : Works) (o : OutId) (h : HeldRequest) : Works :=
  (((w.adoptLimits o).modOut o fun x => { x with driven := .cutWait .asked }).garbRequest (h.request o)).1

/-- R73: the retry time of an output in CUT-WAIT has run out. -/
def Works.retryExpiry (w : Works) (o : OutId) : Works :=
  match (w.out o).driven with
  | .cutWait (.timing 0) =>
    match (w.out o).heldRequest with
    | some h => w.sendRetry o h
    | none => (w.modOut o fun x => { x with driven := .off }).tell (.stage o .dropped)
  | _ => w

/-- R74: the clean time, in ms. -/
def cleanLimit : Nat := 60000

/-- R74: the clean timer of a RETRYING record of an ON output has reached 60 s. -/
def Works.cleanDue (w : Works) (o : OutId) (c : FaultCause) : Bool :=
  match (w.fault o c).state with
  | .retrying => (w.out o).isOn && decide (cleanLimit ≤ (w.fault o c).clean)
  | _ => false

/-- R74: the end of a run of cuts. -/
def Works.cleanExpiry (w : Works) (o : OutId) (c : FaultCause) : Works :=
  if w.cleanDue o c then w.modFault o c fun r => { r with state := .clear, attempts := 0, clean := 0 } else w

/-- R68: the over-trip timer of an output has run for the trip dwell. -/
def Works.dwellExpiry (w : Works) (o : OutId) : Works :=
  match (w.out o).overTimer with
  | some _ =>
    let current := (w.out o).current
    (w.modOut o fun x => { x with overTimer := none }).occurrence o .overcurrent current
  | none => w

/-- R69: the open timer of an output has run its window. -/
def Works.openExpiry (w : Works) (o : OutId) : Works :=
  match (w.out o).openTimer with
  | some _ =>
    let current := (w.out o).current
    (w.modOut o fun x => { x with openTimer := none }).occurrence o .openLoad current
  | none => w

/-! ## CLEAR-FAULT (R76, R77) -/

/-- R76: whether a load check finds the condition of a cause present. -/
def checkFinds (l : LoadCheck) (c : FaultCause) : Bool :=
  match l, c with
  | .shorted, .overcurrent => true
  | .shorted, .short => true
  | .openLoad, .openLoad => true
  | _, _ => false

/-- Some record of the output is LATCHED (R72). -/
def Works.latchedOut (w : Works) (o : OutId) : Bool :=
  [FaultCause.overcurrent, .short, .openLoad].any fun c =>
    match (w.fault o c).state with | .latched => true | _ => false

/-- R77: an output leaves LATCHED: the owner is told CLEARED, then a held request is sent as a retry request. -/
def Works.leaveLatched (w : Works) (o : OutId) : Works :=
  let w := w.tell (.stage o .cleared)
  match (w.out o).heldRequest with
  | some h => w.sendRetry o h
  | none => w.modOut o fun x => { x with driven := .off }

/-- R77: CLEAR-FAULT of one record, with what the load check would find. Answers whether it is refused STILL-PRESENT. -/
def Works.clearFault (w : Works) (o : OutId) (c : FaultCause) (load : LoadCheck) : Works × Bool :=
  let cleared := w.modFault o c fun r => { r with state := .clear, attempts := 0, clean := 0 }
  match (w.fault o c).state with
  | .latched =>
    if checkFinds load c then (w, true)
    else if cleared.latchedOut o then (cleared, false)
    else if (cleared.out o).isLatched then (cleared.leaveLatched o, false)
    else (cleared, false)
  | .retrying => (cleared, false)
  | .active => (w, true)
  | .clear => (w, false)

/-! ## The thermal stage (R78, R79) -/

/-- R78: the highest stage whose entry threshold is at or below T. -/
def entered (t : Int) : Nat := if 1400 ≤ t then 3 else if 1250 ≤ t then 2 else if 1100 ≤ t then 1 else 0

/-- R78: the leave value of a stage. -/
def leaveBelow : Nat → Int
  | 1 => 1000
  | 2 => 1150
  | _ => 1300

/-- R78: the fall, one stage at a time, while T is below the leave value. -/
def fallFrom (t : Int) : Nat → Nat
  | 0 => 0
  | k + 1 => if t < leaveBelow (k + 1) then fallFrom t k else k + 1

/-- R78: the stage that a T_DIE publication gives from stage k. -/
def stageAfter (k : Nat) (die : Reading) : Nat :=
  match die.usable with
  | some t => if k < entered t then entered t else fallFrom t k
  | none => if k = 3 then 3 else 2

/-- R79: the THERMAL record's move from stage `old` to stage `new`. -/
def FaultRecord.thermalMove (r : FaultRecord) (old new seconds : Nat) : FaultRecord :=
  if old < new then
    let r := if old = 0 then { r.count seconds with state := .active } else r
    { r with attempts := max r.attempts new }
  else if new = 0 then { r with state := .clear, attempts := 0 }
  else r

/-- R79: entering stage 3 switches every ON output off. -/
def Works.allOff (w : Works) : Works := allOuts.foldl (fun w o => w.switchOff o) w

/-- R79: leaving stage 3 lets an output that holds a grant with its demand ON become ON. -/
def Works.allFixOn (w : Works) : Works := allOuts.foldl (fun w o => w.fixOn o) w

/-- R78 and R79 up to the arbiter's taking: the stage, the outputs, the THERMAL record and its posting. Answers whether
the stage is published. -/
def Works.thermal (w : Works) (die : Reading) : Works × Bool :=
  let old := w.stages.stage
  let new := stageAfter old die
  let due := old != new || !w.stages.staged
  let w := { w with stages := { w.stages with stage := new, staged := true, lastDie := die } }
  if due then
    let w := if new = 3 && old != 3 then w.allOff else if old = 3 && new != 3 then w.allFixOn else w
    let w := { w with stages := { w.stages with thermal := w.stages.thermal.thermalMove old new w.seconds } }
    (w.postThermal ⟨new, die⟩, true)
  else (w, false)

end Sys2Proof.Machine
end

