-- ==== Sys2Proof/Machine/Water.lean ====
section
/-! DEFINITION. The Water Controller (chapter 7): tank filters, pump evaluation, frost timer, drain pulses, and what the
pump and the drain do on each notice. -/

namespace Sys2Proof.Machine

/-! ## Tank filters (R123, R124) -/

/-- R123: the slosh length for a condition. -/
def sloshLength : Condition → Nat
  | .driving => 40
  | _ => 6

/-- R123: the filter at one publication. -/
def Tank.take (t : Tank) (slosh : Nat) (r : Reading) : Tank :=
  match r.usable with
  | some b =>
    let band := b.toNat
    let run := if t.candidate = some band then min 40 (t.run + 1) else 1
    { t with
      candidate := some band
      run := run
      invalid := 0
      slosh := slosh
      accepted := if slosh ≤ run then some band else t.accepted }
  | none =>
    let invalid := min 40 (t.invalid + 1)
    { t with
      candidate := none
      run := 0
      invalid := invalid
      slosh := slosh
      accepted := if 40 ≤ invalid then none else t.accepted }

/-- R124: grey full and the below count, after the grey filter has moved. -/
def Water.judgeGrey (w : Water) (r : Reading) : Water :=
  match w.grey.accepted with
  | none => w
  | some 2 => { w with greyFull := true, below := 0 }
  | some _ =>
    if r.usable.isSome then
      let below := min 6 (w.below + 1)
      { w with below := below, greyFull := if 6 ≤ below then false else w.greyFull }
    else w

/-! ## The pump (R126, R128, R129) -/

/-- The drain state is CLOSED. -/
def Drain.isClosed : Drain → Bool
  | .closed => true
  | _ => false

/-- Which holds stand (R129): grey full 0, drain 1, fresh UNKNOWN 2. -/
def Water.holds (w : Water) : FlagSet :=
  FlagSet.ofFlags [w.greyFull, !w.drain.isClosed, w.fresh.accepted.isNone]

/-- The hold of section 7.3. -/
def Water.hold (w : Water) : Bool := w.greyFull || !w.drain.isClosed || w.fresh.accepted.isNone

/-- "Request standing": a grant, a Wait List entry or a held request (section 7.3). -/
def Works.pumpStanding (w : Works) : Bool :=
  (w.out PUMP).grant.isSome || (w.arbiter.waitOf PUMP).isSome || (w.out PUMP).heldRequest.isSome

/-- R126: the table of rows. -/
def Works.pumpRow (w : Works) : PumpState :=
  if w.water.limitLatch then .limitStop
  else if w.water.dryLatch then .dryStop
  else if !w.water.psw then .idle
  else if w.water.hold then .held
  else if (w.out PUMP).grant.isSome then .running
  else .waiting

/-- The reasons that a move of the pump state gives (R129): HOLD 2, DRY-STOP 3, LIMIT-STOP 4. -/
def pumpReasons (old new : PumpState) : FlagSet :=
  if old = new then 0
  else FlagSet.ofFlags [false, false, old == .held || new == .held, new == .dryStop, new == .limitStop]

/-- The timers that a pump state keeps (R127, R128): both stand at nothing outside RUNNING; the dry timer runs while the
fresh band is 0. -/
def Water.setPump (w : Water) (state : PumpState) : Water :=
  let runs := decide (state = PumpState.running)
  { w with
    pump := state
    runTimer := if runs then some (w.runTimer.getD 0) else none
    dryTimer := if runs && decide (w.fresh.accepted = some 0) then some (w.dryTimer.getD 0) else none }

/-- WCTL gives up PUMP where a request stands (R126): the demand OFF, then the release. -/
def Works.releasePump (w : Works) : Works :=
  if w.pumpStanding then (w.setDemand PUMP none).release PUMP else w

/-- R126: PUMP's request, from its adopted record. -/
def Works.askPump (w : Works) : Works :=
  let w := w.adopt PUMP
  let load := (w.out PUMP).load
  (w.ask ⟨PUMP, load.cls.getD 0, load.rated, load.rated, none, none⟩).1

/-- R129: WATER is posted once for all the reasons of an event. -/
def Works.postWaterFor (w : Works) (reasons : FlagSet) : Works :=
  if reasons = 0 then w
  else w.postWater ⟨reasons, w.water.fresh.accepted, w.water.grey.accepted, w.water.greyFull, w.water.pump, w.water.holds⟩

/-- R126: the pump evaluation, made at an event that has the given reasons of its own. WATER is posted with the state as
the evaluation leaves it, before the answer to a request it sends is taken (DEDUCED, log entry 31). -/
def Works.evaluatePump (w : Works) (reasons : FlagSet) : Works :=
  let old := w.water.pump
  let new := w.pumpRow
  let w := { w with water := w.water.setPump new }
  let w := match new with
    | .running => if old = PumpState.running then w else w.setDemand PUMP (some .on)
    | .waiting =>
      let w := if old = PumpState.running then w.setDemand PUMP none else w
      if w.pumpStanding then w else w.askPump
    | _ => w.releasePump
  w.postWaterFor (reasons ||| pumpReasons old new)

/-- R127: WCTL takes a notice of the arbiter for PUMP. -/
def Works.pumpNotice (w : Works) : GrantNotice → Works
  | .revoked => (w.setDemand PUMP none).evaluatePump 0
  | .withdrawn => (w.setDemand PUMP none).evaluatePump 0
  | .removed => w
  | _ => w.evaluatePump 0

/-- R127: WCTL takes a notice of the output stage for PUMP. -/
def Works.pumpStage (w : Works) : StageNotice → Works
  | .cut => (w.setDemand PUMP none).evaluatePump 0
  | .latched => (w.setDemand PUMP none).evaluatePump 0
  | _ => w

/-- R125 and R128: a change of the debounced pressure switch, with the re-arming of a limit stop. -/
def Works.pswChanged (w : Works) (closed : Bool) : Works :=
  let rearm := !closed && w.water.limitLatch
  let w := { w with water := { w.water with psw := closed, limitLatch := w.water.limitLatch && closed } }
  w.evaluatePump (FlagSet.ofFlags [false, false, false, false, false, rearm])

/-- R128: the dry time, in ms. -/
def dryLimit : Nat := 15000

/-- R128: the dry timer has reached 15 s. -/
def Works.dryRun (w : Works) : Works :=
  if reached w.water.dryTimer dryLimit then { w with water := { w.water with dryLatch := true } }.evaluatePump 0 else w

/-- R128: the run timer has reached the run limit. -/
def Works.runLimit (w : Works) : Works :=
  if reached w.water.runTimer (w.water.adopted.runLimit * 1000) then
    { w with water := { w.water with limitLatch := true } }.evaluatePump 0
  else w

/-- R123, R126, R128, R138: WCTL takes a FRESH publication: the run limit is adopted, the filter moves, latches are
cleared or set, and the pump evaluation is made where one of its inputs changed. -/
def Works.takeFresh (w : Works) (r : Reading) : Works :=
  let before := w.water
  let limit := w.link.live.water.runLimit
  let fresh := before.fresh.take (sloshLength w.vehicle.condition) r
  let changed := fresh.accepted != before.fresh.accepted
  let rearm := before.dryLatch && decide (1 ≤ fresh.accepted.getD 0)
  let late := reached before.runTimer (limit * 1000)
  let w := { w with water := { before with
    fresh := fresh
    adopted := { before.adopted with runLimit := limit }
    dryLatch := before.dryLatch && !rearm
    limitLatch := before.limitLatch || late } }
  if changed || rearm || late then
    w.evaluatePump (FlagSet.ofFlags [changed, false, false, false, false, rearm])
  else w

/-- R123, R124, R126: WCTL takes a GREY publication. -/
def Works.takeGrey (w : Works) (r : Reading) : Works :=
  let before := w.water
  let grey := before.grey.take (sloshLength w.vehicle.condition) r
  let w := { w with water := { before with grey := grey }.judgeGrey r }
  if w.water.greyFull != before.greyFull then w.evaluatePump (FlagSet.ofFlags [false, true]) else w

/-! ## The frost timer (R130) -/

/-- R130: the frost condition. -/
def Water.frostHolds (w : Water) : Bool :=
  let cold := match w.waterCopy.usable with
    | some t => decide (t ≤ w.adopted.frostThreshold)
    | none => true
  cold && !(w.heaterCopy == .igniting || w.heaterCopy == .running)

/-- R130: the judgement of the frost condition and the timer's move. -/
def Water.judgeFrost (w : Water) : Water :=
  { w with frost := if w.frostHolds then (match w.frost with | .stopped => .running 0 | f => f) else .stopped }

/-- WCTL takes a heater state event (R106, R130). -/
def Water.takeHeater (w : Water) (phase : HeaterPhase) : Water := { w with heaterCopy := phase }.judgeFrost

/-- R130, R138: WCTL takes a T_WATER publication. -/
def Water.takeWater (w : Water) (setup : WaterSetup) (r : Reading) : Water :=
  { w with
    waterCopy := r
    adopted := { w.adopted with frostThreshold := setup.frostThreshold, frostTime := setup.frostTime } }.judgeFrost

/-- R130: the elapsed time has reached the adopted frost time. -/
def Water.frostDue (w : Water) : Bool :=
  match w.frost with
  | .running t => decide (w.adopted.frostTime * 1000 ≤ t)
  | _ => false

/-! ## The drain (R131 to R137) -/

/-- The pulse of a drain in OPENING or CLOSING. -/
def Drain.pulse? : Drain → Option DrainPulse
  | .opening p => some p
  | .closing p => some p
  | _ => none

/-- The target of a pulse as a position (R133). -/
def Drain.target? : Drain → Option DrainPos
  | .opening _ => some .opened
  | .closing _ => some .closed
  | _ => none

def Drain.modPulse (d : Drain) (f : DrainPulse → DrainPulse) : Drain :=
  match d with
  | .opening p => .opening (f p)
  | .closing p => .closing (f p)
  | d => d

def Works.modPulse (w : Works) (f : DrainPulse → DrainPulse) : Works :=
  { w with water := { w.water with drain := w.water.drain.modPulse f } }

/-- DRAIN's request, from its adopted record (R133). -/
def Works.askDrain (w : Works) : Works :=
  let w := w.adopt DRAIN
  let load := (w.out DRAIN).load
  (w.ask ⟨DRAIN, load.cls.getD 0, load.rated, load.rated, none, none⟩).1

/-- R137: a change of the drain state posts DRAIN. -/
def Works.postDrainChange (w : Works) (before : DrainState) (reason : DrainReason) : Works :=
  w.postDrain ⟨w.water.drain.state, before, reason, w.water.position, w.water.waterCopy⟩

/-- R133: a pulse is started as a single operation; the change posts DRAIN and runs the pump evaluation (R137). -/
def Works.startPulse (w : Works) (opening : Bool) (reason : DrainReason) : Works :=
  let before := w.water.drain.state
  let pulse : DrainPulse := ⟨false, false, 0, 0⟩
  let w := { w with water := { w.water with drain := if opening then .opening pulse else .closing pulse } }
  let w := (w.setDemand DRAIN (some (.polarity opening))).askDrain
  (w.postDrainChange before reason).evaluatePump 0

/-- The pulse's end: DRAIN's demand OFF and its release (R133, R134). -/
def Works.stopPulse (w : Works) : Works := (w.setDemand DRAIN none).release DRAIN

/-- A drain state that is no pulse is entered (R133, R137); entry to CLOSED while the frost timer is EXPIRED opens the
drain again (R131). -/
def Works.enterDrain (w : Works) (state : Drain) (reason : DrainReason) : Works :=
  let before := w.water.drain.state
  let w := { w with water := { w.water with drain := state } }
  let w := (w.postDrainChange before reason).evaluatePump 0
  if state.isClosed && decide (w.water.frost = FrostTimer.expired) then w.startPulse true .frost else w

/-- R133: the drain is confirmed where its pulse has started and the debounced position is the target. The confirm clock is not
asked: a target taken when it stands at 5 s, before CONFIRM_WINDOW_EXPIRY is taken, still confirms (DESIGN CHOICE, log entry
10). -/
def Works.confirmDrain (w : Works) : Works :=
  match w.water.drain with
  | .opening p =>
    if p.started && decide (w.water.position = .opened) then
      (if p.complete then w else w.stopPulse).enterDrain .opened .confirmed
    else w
  | .closing p =>
    if p.started && decide (w.water.position = .closed) then
      (if p.complete then w else w.stopPulse).enterDrain .closed .confirmed
    else w
  | _ => w

/-- R130: the frost expiry opens a CLOSED drain. -/
def Works.frostExpire (w : Works) : Works :=
  match w.water.frost with
  | .running _ =>
    let w := { w with water := { w.water with frost := .expired } }
    if w.water.drain.isClosed then w.startPulse true .frost else w
  | _ => w

/-- R132, R133: a new debounced position. -/
def Works.drainMoved (w : Works) (position : DrainPos) : Works :=
  { w with water := { w.water with position := position } }.confirmDrain

/-- R133: the pulse clock has reached 2 s. -/
def DrainPulse.over (p : DrainPulse) : Bool := p.started && !p.complete && decide (2000 ≤ p.clock)

/-- R133: the confirm clock has reached 5 s. -/
def DrainPulse.windowOver (p : DrainPulse) : Bool := p.complete && decide (5000 ≤ p.confirm)

/-- R133: the pulse is complete once its clock has reached 2 s. -/
def Works.completePulse (w : Works) : Works :=
  match w.water.drain.pulse? with
  | some p => if p.over then (w.modPulse fun p => { p with complete := true }).stopPulse else w
  | none => w

/-- R133: the confirm clock has reached 5 s without the target. -/
def Works.confirmOut (w : Works) : Works :=
  match w.water.drain.pulse? with
  | some p => if p.windowOver then w.enterDrain .fault .noConfirm else w
  | none => w

/-- R133, R134: WCTL takes a notice of the arbiter for DRAIN. -/
def Works.drainNotice (w : Works) : GrantNotice → Works
  | .granted _ _ =>
    match w.water.drain.pulse? with
    | some p => if p.started then w else (w.modPulse fun p => { p with started := true }).confirmDrain
    | none => w
  | .revoked =>
    match w.water.drain.pulse? with
    | some p => if p.complete then w else w.askDrain
    | none => w
  | _ => w

/-- R134: WCTL takes a notice of the output stage for DRAIN. -/
def Works.drainStage (w : Works) : StageNotice → Works
  | .latched =>
    match w.water.drain.pulse? with
    | some p => if p.complete then w else w.stopPulse.enterDrain .fault .outputLatched
    | none => w
  | _ => w

/-- The answers to OPEN-DRAIN and CLOSE-DRAIN (R135, R136). -/
inductive DrainAnswer | ok | busy | latched | wrongState | cold
  deriving DecidableEq, Repr

/-- R135. -/
def Works.openDrain (w : Works) : Works × DrainAnswer :=
  match w.water.drain.state with
  | .closed => if (w.out DRAIN).isLatched then (w, .latched) else (w.startPulse true .host, .ok)
  | .fault => if (w.out DRAIN).isLatched then (w, .latched) else (w.startPulse true .host, .ok)
  | .closing => (w, .busy)
  | _ => (w, .ok)

/-- R136: the water copy is usable with a value of 70 or more. -/
def Reading.warm (r : Reading) : Bool :=
  match r.usable with
  | some t => decide (70 ≤ t)
  | none => false

/-- R136. -/
def Works.closeDrain (w : Works) : Works × DrainAnswer :=
  let movable := match w.water.drain.state with | .opened => true | .fault => true | _ => false
  if !movable then (w, .wrongState)
  else if !w.water.waterCopy.warm then (w, .cold)
  else if (w.out DRAIN).isLatched then (w, .latched)
  else (w.startPulse false .host, .ok)

end Sys2Proof.Machine
end

