-- ==== Sys2Proof/Machine/Heating.lean ====
section
/-! DEFINITION. The Climate Controller (chapter 6): demand, the heater state machine, the fan duty law, purge and lockout,
and what CCTL does on each notice. Every change of heater state goes to the Water Controller at once (R106). -/

namespace Sys2Proof.Machine

/-! ## Demand (R101, R103, R104) -/

/-- R101: the effective setpoint. -/
def Climate.effective (c : Climate) : Option Nat :=
  match c.mode with
  | .off => none
  | .comfort => some c.setpoint
  | .eco => some (max 50 (c.setpoint - c.adopted.ecoOffset))
  | .frost => some 50

/-- R101: heat demand. -/
def Climate.heatDemand (c : Climate) : Bool := c.cabinDemand || c.waterDemand

/-- R103. -/
def Climate.evaluateCabin (c : Climate) : Climate :=
  match c.effective, c.cabin.usable with
  | some eff, some t =>
    { c with cabinDemand :=
        if !c.cabinDemand && decide (t ≤ (eff : Int) - c.adopted.hysteresis) then true
        else if c.cabinDemand && decide ((eff : Int) + c.adopted.hysteresis ≤ t) then false
        else c.cabinDemand }
  | _, _ => { c with cabinDemand := false }

/-- R104. -/
def Climate.evaluateWater (c : Climate) : Climate :=
  match c.mode, c.water.usable with
  | .off, _ => { c with waterDemand := false }
  | _, none => { c with waterDemand := false }
  | _, some t =>
    { c with waterDemand :=
        if !c.waterDemand && decide (t ≤ 50) then true
        else if c.waterDemand && decide (80 ≤ t) then false
        else c.waterDemand }

/-- R110: the fan duty of RUNNING. -/
def Climate.fanDuty (c : Climate) : Nat :=
  if c.cabinDemand then
    match c.effective, c.cabin.usable with
    | some eff, some t =>
      let e := (eff : Int) - t
      if e ≤ 0 then c.adopted.fanFloor else min 1000 (c.adopted.fanFloor + c.adopted.gain * e.toNat)
    | _, _ => c.adopted.fanFloor
  else c.adopted.fanFloor

/-! ## State changes and requests -/

/-- The heater's state is set; a change of state is handed to WCTL (R106). -/
def Works.setHeater (w : Works) (h : Heater) : Works :=
  let changed := w.climate.heater.phase != h.phase
  let w := { w with climate := { w.climate with heater := h } }
  if changed then { w with water := w.water.takeHeater h.phase } else w

/-- The output holds a grant or an entry, or is cut. -/
def Works.standing (w : Works) (o : OutId) : Bool :=
  (w.out o).grant.isSome || (w.arbiter.waitOf o).isSome || (w.out o).isCut

/-- CCTL's demand OFF and release of an output that has a standing (R113, R116). -/
def Works.giveUp (w : Works) (o : OutId) : Works :=
  let w := w.setDemand o none
  if w.standing o then w.release o else w

/-- A fan request from HFAN's adopted record (R110, R113). -/
def Works.askFan (w : Works) (cls : Option Nat) (wanted floor : Nat) : Works :=
  let w := { w with climate := { w.climate with fanWanted := wanted } }.adopt HFAN
  let load := (w.out HFAN).load
  let p : Proportion := ⟨load.rated, wanted, floor⟩
  (w.ask ⟨HFAN, cls.getD (load.cls.getD 0), p.requested, p.floorMa, some p, none⟩).1

/-- R110: in RUNNING a computed duty other than the fan wanted duty is asked for. -/
def Works.fanLaw (w : Works) : Works :=
  let d := w.climate.fanDuty
  if d = w.climate.fanWanted then w else w.askFan none d w.climate.adopted.fanFloor

/-- R107: the companion request for ignition. -/
def Works.askIgnition (w : Works) : Works :=
  let floor := w.climate.adopted.fanFloor
  let w := ({ w with climate := { w.climate with fanWanted := floor } }.adopt HBRN).adopt HFAN
  let burner := (w.out HBRN).load
  let fan := (w.out HFAN).load
  let p : Proportion := ⟨fan.rated, floor, floor⟩
  (w.ask ⟨HBRN, burner.cls.getD 0, burner.rated, burner.rated, none,
    some ⟨HFAN, fan.cls.getD 0, amountFor fan.rated floor, some p⟩⟩).1

/-- R107: the four conditions of the ignition test. -/
def Works.ignitionDue (w : Works) : Bool :=
  w.climate.heatDemand && !w.climate.flame && !(w.out HBRN).isCut && !(w.out HFAN).isCut
    && !w.arbiter.knows HBRN && !w.arbiter.knows HFAN

/-- R107: the ignition test in OFF. -/
def Works.ignitionTest (w : Works) : Works :=
  match w.climate.heater with
  | .off => if w.ignitionDue then (w.setHeater .awaitGrant).askIgnition else w
  | _ => w

/-! ## Purge and lockout (R113, R114, R116) -/

/-- Section 6.4: the purge time of a reason, in seconds. -/
def PurgeReason.seconds : PurgeReason → Nat
  | .ignitionFail => 60
  | .revoked => 60
  | _ => 120

/-- R113: CCTL purges with a reason and an after purge. -/
def Works.purge (w : Works) (reason : PurgeReason) (after : AfterPurge) : Works :=
  let w := w.giveUp HBRN
  let w := (w.setDemand HFAN (some (.duty 1000))).askFan (some 0) 1000 1000
  w.setHeater (.purging ⟨reason, reason.seconds, 0, after⟩)

/-- R116: entry to LOCKOUT, with the state that the HEATER detail gives as the one before. That HBRN is released before HFAN, each
release with its own service, is the model's reading (DEDUCED, log entry 20). -/
def Works.enterLockout (w : Works) (reason : LockoutReason) : Works :=
  let before := w.climate.heater.phase
  let w := ((w.giveUp HBRN).giveUp HFAN).setHeater (.lockout reason)
  w.postHeater ⟨reason, before, w.climate.failures, w.seconds⟩

/-- Entry to OFF: the failures rest where no heat is wanted, then the ignition test (R107, R114). -/
def Works.enterOff (w : Works) : Works :=
  let w := if w.climate.heatDemand then w else { w with climate := { w.climate with failures := 0 } }
  (w.setHeater .off).ignitionTest

/-- R114: the purge ends. -/
def Works.endPurge (w : Works) (p : Purge) : Works :=
  let w := w.giveUp HFAN
  match p.after with
  | .lockout reason => w.enterLockout reason
  | _ => w.enterOff

/-- R114: the purge clock has reached the purge time. -/
def Purge.timeUp (p : Purge) : Bool := decide (p.seconds * 1000 ≤ p.clock)

/-- R114: the purge clock has reached the purge time; a flame still SEEN keeps the purge running. -/
def Works.purgeExpiry (w : Works) : Works :=
  match w.climate.heater with
  | .purging p => if p.timeUp && !w.climate.flame then w.endPurge p else w
  | _ => w

/-! ## The heater's events -/

/-- R108, R109, R112, R114, R117: heat demand, as an evaluation left it, acts on the heater; `test` says whether the
ignition test of R107 is made in OFF. Demand that goes off in AWAIT-GRANT or OFF leaves the ignition failures as they are
(DEDUCED, log entry 33). -/
def Works.applyDemand (w : Works) (test : Bool) : Works :=
  let on := w.climate.heatDemand
  match w.climate.heater with
  | .off => if test then w.ignitionTest else w
  | .awaitGrant => if on then w else (w.withdraw HBRN).setHeater .off
  | .igniting _ => if on then w else w.purge .demandOff .off
  | .running => if on then w.fanLaw else w.purge .demandOff .off
  | .purging p =>
    match p.after, on with
    | .reignite, false => { w with climate := { w.climate with heater := .purging { p with after := .off } } }
    | _, _ => w
  | .lockout _ => w

/-- R102, R103, R119: a T_CABIN publication. -/
def Works.takeCabin (w : Works) (r : Reading) : Works :=
  let c := { w.climate with adopted := w.link.live.climate, cabin := r }.evaluateCabin
  { w with climate := c }.applyDemand true

/-- R102, R104: a T_WATER publication at CCTL. -/
def Works.takeWaterTemp (w : Works) (r : Reading) : Works :=
  let c := { w.climate with water := r }.evaluateWater
  { w with climate := c }.applyDemand true

/-- R109: the flame is SEEN in IGNITING. -/
def Works.lit (w : Works) : Works :=
  let w := w.giveUp HBRN
  ({ w with climate := { w.climate with failures := 0 } }.setHeater .running).fanLaw

/-- R112: the flame is lost in RUNNING. -/
def Works.flameLost (w : Works) : Works :=
  let again := match w.climate.firstLoss with
    | some t => decide (w.seconds - t ≤ 600)
    | none => false
  if again then w.purge .flameLoss (.lockout .flameLoss)
  else { w with climate := { w.climate with firstLoss := some w.seconds } }.purge .flameLoss .reignite

/-- R105, R107 to R109, R112, R114: a change of the flame state. -/
def Works.flameChanged (w : Works) (seen : Bool) : Works :=
  let w := { w with climate := { w.climate with flame := seen } }
  match w.climate.heater, seen with
  | .off, true => w.purge .stray .off
  | .awaitGrant, true => (w.withdraw HBRN).purge .stray .off
  | .igniting _, true => w.lit
  | .running, false => w.flameLost
  | .purging p, false => if p.timeUp then w.endPurge p else w
  | _, _ => w

/-- R109: an ignition has failed. -/
def Works.ignitionFailed (w : Works) : Works :=
  let failures := saturate 2 (w.climate.failures + 1)
  let w := { w with climate := { w.climate with failures := failures } }
  w.purge .ignitionFail (if 2 ≤ failures then .lockout .ignition else .reignite)

/-- R109: the ignition time, in ms. -/
def ignitionLimit : Nat := 90000

/-- R109: the ignition timer has reached 90 s. -/
def Works.ignitionOut (w : Works) : Works :=
  match w.climate.heater with
  | .igniting t => if ignitionLimit ≤ t then w.ignitionFailed else w
  | _ => w

/-- R117: SET-CLIMATE with a mode and, where given, a setpoint already clamped. -/
def Works.setClimate (w : Works) (mode : ClimateMode) (setpoint : Option Nat) : Works :=
  let before := w.climate.heatDemand
  let c := { w.climate with mode := mode, setpoint := setpoint.getD w.climate.setpoint }.evaluateCabin.evaluateWater
  { w with climate := c }.applyDemand (!before && c.heatDemand)

/-- R118: RESET-HEATER. Answers whether it is refused STILL-PRESENT. -/
def Works.resetHeater (w : Works) : Works × Bool :=
  match w.climate.heater with
  | .lockout _ =>
    if (w.out HBRN).isLatched || (w.out HFAN).isLatched then (w, true)
    else
      let w := { w with climate := { w.climate with failures := 0, firstLoss := none } }
      ((w.setHeater .off).ignitionTest, false)
  | _ => (w, false)

/-! ## Notices (R108, R111, R114 to R116) -/

/-- R111: HFAN's demand duty is the smaller of the fan wanted duty and the granted duty. -/
def Works.fanFollows (w : Works) (duty : Option Nat) : Works :=
  let d := min w.climate.fanWanted (duty.getD w.climate.fanWanted)
  w.setDemand HFAN (some (.duty d))

/-- R108: both parts of the companion request are granted. -/
def Works.ignite (w : Works) (duty : Option Nat) : Works :=
  if (w.out HBRN).grant.isSome && (w.out HFAN).grant.isSome then
    ((w.setDemand HBRN (some .on)).fanFollows duty).setHeater (.igniting 0)
  else w

/-- A grant notice for HFAN that carries a duty (R108, R111). -/
def Works.fanGranted (w : Works) (duty : Option Nat) : Works :=
  match w.climate.heater with
  | .awaitGrant => w.ignite duty
  | .igniting _ => w.fanFollows duty
  | .running => w.fanFollows duty
  | .purging _ => w.fanFollows duty
  | _ => w

/-- R114, R115: HFAN has lost its grant. -/
def Works.fanRevoked (w : Works) : Works :=
  match w.climate.heater with
  | .igniting _ => w.purge .revoked .reignite
  | .running => w.purge .revoked .reignite
  | .purging _ => w.askFan (some 0) 1000 1000
  | _ => w

/-- R115: HFAN's grant was withdrawn in RUNNING. -/
def Works.fanWithdrawn (w : Works) : Works :=
  match w.climate.heater with
  | .running => w.purge .revoked .reignite
  | _ => w

/-- CCTL takes a notice of the arbiter for HFAN. -/
def Works.fanNotice (w : Works) : GrantNotice → Works
  | .granted _ duty => w.fanGranted duty
  | .partGranted _ duty => w.fanGranted duty
  | .raised _ duty _ => w.fanGranted duty
  | .reduced _ duty => w.fanGranted duty
  | .revoked => w.fanRevoked
  | .withdrawn => w.fanWithdrawn
  | _ => w

/-- CCTL takes a notice of the arbiter for HBRN (R115). -/
def Works.burnerNotice (w : Works) : GrantNotice → Works
  | .revoked =>
    match w.climate.heater with
    | .igniting _ => w.purge .revoked .reignite
    | _ => w
  | _ => w

/-- R115: an output that CCTL no longer wants is released again. -/
def Works.unwanted (w : Works) (o : OutId) : Works :=
  match w.climate.heater with
  | .off => w.release o
  | .lockout _ => w.release o
  | .running => if o = HBRN then w.release o else w
  | .purging _ => if o = HBRN then w.release o else w
  | _ => w

/-- CCTL takes a notice of the output stage for HFAN (R114 to R116). -/
def Works.fanStage (w : Works) : StageNotice → Works
  | .cut =>
    match w.climate.heater with
    | .igniting _ => w.purge .revoked .reignite
    | .running => w.purge .revoked .reignite
    | _ => w
  | .latched =>
    match w.climate.heater with
    | .lockout _ => w
    | _ => w.enterLockout .hfanFault
  | .restored => w.unwanted HFAN
  | .cleared => w.unwanted HFAN
  | .dropped => w

/-- R116: HBRN latches. -/
def Works.burnerLatched (w : Works) : Works :=
  if (w.out HFAN).isLatched then
    match w.climate.heater with
    | .lockout _ => w
    | _ => w.enterLockout .hbrnFault
  else match w.climate.heater with
    | .igniting _ => w.purge .fault (.lockout .hbrnFault)
    | .running => w.purge .fault (.lockout .hbrnFault)
    | .purging p =>
      { w with climate := { w.climate with heater := .purging { p with after := .lockout .hbrnFault } } }
    | .lockout _ => w
    | _ => w.enterLockout .hbrnFault

/-- CCTL takes a notice of the output stage for HBRN (R115, R116). -/
def Works.burnerStage (w : Works) : StageNotice → Works
  | .cut =>
    match w.climate.heater with
    | .igniting _ => w.purge .revoked .reignite
    | _ => w
  | .latched => w.burnerLatched
  | .restored => w.unwanted HBRN
  | .cleared => w.unwanted HBRN
  | .dropped => w

end Sys2Proof.Machine
end

