-- ==== Sys2Proof/Machine/Lighting.lean ====
section
/-! DEFINITION. The Lighting Controller (chapter 5): settings, fades, the period boundary, and what a channel does on each
notice. -/

namespace Sys2Proof.Machine

/-! ## The channel -/

/-- The covering grant with a lowering that is due at the next boundary already taken (R84, R91, R92). A setting between a
notice that lowers and that boundary is judged by it (DEDUCED, log entry 16). -/
def Light.effective (l : Light) : Option Cover :=
  match l.lowering with
  | some .toNone => none
  | some (.to c) => some c
  | none => l.cover

/-- The duty g of R87: 0 with no grant. -/
def Light.coverDuty (l : Light) : Nat := (l.effective.map (·.duty)).getD 0

/-- R88: N = fade time × 5 ticks. -/
def fadeTicks (fadeTime : Nat) : Nat := fadeTime * 5

/-- A fade that waits for its start boundary (R88). -/
def Fade.waiting (target fadeTime : Nat) : Fade := ⟨target, fadeTicks fadeTime, 0, none, 0⟩

/-- R88: the duty of tick k of N between D0 and Dt. -/
def fadeDuty (d0 dt k n : Nat) : Nat := ((d0 : Int) + Int.tdiv (((dt : Int) - d0) * k) n).toNat

/-- The courtesy state when a fade-out is ended before its end (R97). -/
def Lights.endFadeOut (l : Lights) (ch : LightId) : Lights :=
  if ch = L5 then { l with courtesy := match l.courtesy with | .fadingOut => .idle | c => c } else l

def Works.endFadeOut (w : Works) (ch : LightId) : Works := { w with lights := w.lights.endFadeOut ch }

/-! ## Requests (R87, R92) -/

/-- R87: a light's grant request, from the output's adopted record. -/
def Works.lightRequest (w : Works) (ch : LightId) (aim : Nat) : GrantRequest :=
  let load := (w.out (lightOut ch)).load
  let p : Proportion := ⟨load.rated, aim, load.floorDuty.getD 0⟩
  ⟨lightOut ch, load.cls.getD 0, p.requested, p.floorMa, some p, none⟩

/-- LCTL asks for a duty: the output adopts its live record and the request goes out (R64, R87). -/
def Works.askLight (w : Works) (ch : LightId) (aim : Nat) : Works × Answer :=
  let w := w.adopt (lightOut ch)
  w.ask (w.lightRequest ch aim)

/-- A withdrawal leaves the channel PARTIAL as FULL, and WAITING as NONE (R87). -/
def Stance.withdrawn : Stance → Stance
  | .part => .full
  | .waiting => .none
  | s => s

/-- LCTL withdraws a channel's entry (R87, R92). -/
def Works.withdrawLight (w : Works) (ch : LightId) : Works :=
  (w.modLight ch fun l => { l with stance := l.stance.withdrawn }).withdraw (lightOut ch)

/-- R87: a channel is set toward its aim over a fade time. Answers the request's answer, where one was made. A pending duty is
kept where a lowering to no grant is still due, and dropped otherwise, the 0 of a revocation that a later grant has
replaced with it (DEDUCED, log entry 16). -/
def Works.setToward (w : Works) (ch : LightId) (fadeTime : Nat) : Works × Option Answer :=
  let w := w.modLight ch fun l => { l with
    fade := none
    pending := match l.lowering with | some .toNone => l.pending | _ => none }
  let l := w.light ch
  if l.coverDuty < l.aim then
    let r := w.askLight ch l.aim
    (r.1, some r.2)
  else
    let w := match l.stance with
      | .waiting => w.withdrawLight ch
      | .part => w.withdrawLight ch
      | .cut => w.release (lightOut ch)
      | _ => w
    if l.effective.isSome then (w.modLight ch fun x => { x with fade := some (Fade.waiting l.aim fadeTime) }, none)
    else (w, none)

/-! ## Settings (R86, R94 to R98) -/

/-- The courtesy action ends (R86, R94, R97). -/
def Works.endCourtesy (w : Works) (ch : LightId) : Works :=
  if ch = L5 then { w with lights := { w.lights with courtesy := .idle } } else w

/-- A host's duty and fade time for one channel (R86, R94). -/
def Works.setLight (w : Works) (ch : LightId) (duty fadeTime : Nat) : Works × Option Answer :=
  let w := (w.endCourtesy ch).modLight ch fun l => { l with wanted := duty, fadeTime := fadeTime }
  if ch = L4 && w.lights.forced then (w, none)
  else (w.modLight ch fun l => { l with aim := duty }).setToward ch fadeTime

/-- R96: a courtesy trigger, taken while PARKED. -/
def Works.courtesyTrigger (w : Works) : Works :=
  match w.vehicle.condition with
  | .parked =>
    let dc := w.link.live.scenes.courtesyDuty
    if dc ≤ (w.light L5).wanted then w
    else
      let w := { w with lights := { w.lights with courtesy := .holding (w.link.live.scenes.courtesyTime * 1000) } }
      ((w.modLight L5 fun l => { l with aim := dc, fadeTime := 0 }).setToward L5 0).1
  | _ => w

/-- R97: the courtesy timer has run out. -/
def Works.courtesyOut (w : Works) : Works :=
  match w.lights.courtesy with
  | .holding 0 =>
    let w := { w with lights := { w.lights with courtesy := .fadingOut } }
    ((w.modLight L5 fun l => { l with aim := l.wanted, fadeTime := 20 }).setToward L5 20).1
  | _ => w

/-- R97: FADING-OUT ends at once if no fade started. -/
def Works.settleCourtesy (w : Works) : Works :=
  if (w.light L5).fade.isNone then w.endFadeOut L5 else w

/-- R98: the outdoor light follows a change of the vehicle condition. -/
def Works.outdoor (w : Works) (new old : Condition) : Works :=
  if new = .driving then
    (({ w with lights := { w.lights with forced := true } }.modLight L4 fun l => { l with aim := 0 }).setToward L4 0).1
  else if old = .driving then
    let w := { w with lights := { w.lights with forced := false } }.modLight L4 fun l => { l with aim := l.wanted }
    (w.setToward L4 (w.light L4).fadeTime).1
  else w

/-! ## Notices (R90 to R93) -/

/-- R90: a GRANTED, PARTIAL or RAISED notice: the covering grant at once, and the re-fade. It takes the place of a lowering
still due, and a tick duty already placed for the next boundary stays placed (DEDUCED, log entry 16). -/
def Light.raise (l : Light) (ma duty : Nat) (stance : Stance) : Light :=
  let target := min l.aim duty
  { l with
    cover := some ⟨ma, duty⟩
    lowering := none
    stance := stance
    fade := match l.fade with
      | some f => if f.target = target then some f else some (Fade.waiting target l.fadeTime)
      | none => some (Fade.waiting target l.fadeTime) }

/-- R90 under R84: a notice whose duty is below the duty still applied (a light dark since this period began that is
granted again before its boundary) lowers the covering grant at that boundary, so that the applied duty never needs more
than the covering grant. Any fade, one already toward the same target too, ends there, and one over the whole fade time
starts (DEDUCED, log entry 21). -/
def Light.takeGrant (l : Light) (ma duty : Nat) (stance : Stance) : Light :=
  if duty < l.applied then
    { l with
      lowering := some (.to ⟨ma, duty⟩)
      stance := stance
      fade := some (Fade.waiting (min l.aim duty) l.fadeTime) }
  else l.raise ma duty stance

/-- A later notice of the arbiter for the output is on its way. -/
def Works.noticeFollows (w : Works) (o : OutId) : Bool :=
  w.inbox.any fun n => match n with | .grant x _ => x == o | .stage _ _ => false

/-- R92: an entry that a cut made or kept is held true to the aim. -/
def Works.correctEntry (w : Works) (ch : LightId) : Works :=
  let l := w.light ch
  match w.arbiter.waitOf (lightOut ch) with
  | none => w
  | some e =>
    if l.aim ≤ l.coverDuty then w.withdrawLight ch
    else if (e.prop.map (·.wanted)).getD 0 = l.aim then w
    else (w.askLight ch l.aim).1

/-- R92: LCTL takes a notice that leaves or makes a TOP-UP entry and corrects the entry. Where the same operation of the arbiter
has followed the notice with another one for the output, that one does so (DEDUCED, log entry 16). -/
def Works.settleEntry (w : Works) (ch : LightId) : Works :=
  if w.noticeFollows (lightOut ch) then w else w.correctEntry ch

/-- R92, R93: the channel goes dark at the next boundary. -/
def Light.goDark (l : Light) (stance : Stance) : Light :=
  { l with fade := none, pending := some 0, lowering := some .toNone, stance := stance }

/-- R91: a REDUCED notice. The covering grant is lowered, and a fade judged, at the next boundary. -/
def Light.takeReduced (l : Light) (ma duty : Nat) : Light :=
  { l with lowering := some (.to ⟨ma, duty⟩), stance := .part }

/-- LCTL takes a notice of the arbiter for a channel. After RAISED and PARTIAL the entry already asks for the aim, but where
one follows a REDUCED that left the correction to it (R92). -/
def Works.lightNotice (w : Works) (ch : LightId) : GrantNotice → Works
  | .granted ma duty => w.modLight ch fun l => l.takeGrant ma (duty.getD 0) .full
  | .partGranted ma duty => (w.modLight ch fun l => l.takeGrant ma (duty.getD 0) .part).settleEntry ch
  | .raised ma duty full =>
    (w.modLight ch fun l => l.takeGrant ma (duty.getD 0) (if full then .full else .part)).settleEntry ch
  | .reduced ma duty => (w.modLight ch fun l => l.takeReduced ma (duty.getD 0)).settleEntry ch
  | .revoked => ((w.modLight ch fun l => l.goDark .waiting).endFadeOut ch).correctEntry ch
  | .withdrawn => ((w.modLight ch fun l => l.goDark .waiting).endFadeOut ch).correctEntry ch
  | .waiting => w.modLight ch fun l => { l with stance := .waiting }
  | .removed => w

/-- LCTL takes a notice of the output stage for a channel (R93). CLEARED leaves an output that stays OFF with no grant
in stance NONE, as section 5.1 gives the stances. -/
def Works.lightStage (w : Works) (ch : LightId) : StageNotice → Works
  | .cut => (w.modLight ch fun l => l.goDark .cut).endFadeOut ch
  | .latched => (w.modLight ch fun l => l.goDark .cut).endFadeOut ch
  | .dropped => w.modLight ch fun l => { l with stance := .none }
  | .cleared =>
    match (w.out (lightOut ch)).driven, (w.out (lightOut ch)).grant with
    | .off, none => w.modLight ch fun l => { l with stance := .none }
    | _, _ => w
  | .restored => w

/-! ## Fade ticks and the period boundary (R84, R85, R88, R89) -/

/-- R88: a tick of a running fade places its duty. -/
def Light.fadeTick (l : Light) : Light :=
  match l.fade with
  | some f =>
    match f.start with
    | some d0 =>
      if f.done < f.ticks then
        { l with
          pending := some (fadeDuty d0 f.target (f.done + 1) f.ticks)
          fade := some { f with done := f.done + 1 } }
      else l
    | none => l
  | none => l

/-- R84: the applied duty of a boundary, from the pending slot and the covering grant. -/
def Light.boundaryDuty (l : Light) : Nat :=
  match l.cover with
  | some c => min (l.pending.getD l.applied) c.duty
  | none => 0

/-- R88: a fade with no ticks places its target for its start boundary. -/
def Light.placeInstant (l : Light) : Light :=
  match l.fade with
  | some f => if f.ticks = 0 then { l with pending := some f.target } else l
  | none => l

/-- R84: the covering grant lowered, the applied duty set, the slot emptied. -/
def Light.applyBoundary (l : Light) : Light :=
  let l := { l.placeInstant with cover := l.effective }
  { l with applied := l.boundaryDuty, pending := none }

/-- R91: of the fades that a boundary with a REDUCED grant meets, one that has waited for this boundary to start goes on
where it does not rise, and one whose last tick this boundary applies ends as R89 gives; any other ends without more (log
entry 16). -/
def Light.keepsFade (l : Light) : Bool :=
  match l.fade with
  | some f => (f.start.isNone || decide (f.ticks ≤ f.done)) && decide (f.target ≤ l.applied)
  | none => false

/-- R91: at the boundary where a REDUCED notice lowers the grant, a running fade ends and the channel fades on to
min(aim, g′) where it stands below, at once where the fade time is 0 (R88's N = 0). -/
def Light.refadeReduced (l : Light) (c : Cover) : Light :=
  let target := min l.aim c.duty
  let again : Fade := { Fade.waiting target l.fadeTime with start := some l.applied }
  if l.applied < target then
    { l with fade := some again, applied := if again.ticks = 0 then target else l.applied }
  else if l.keepsFade then l
  else { l with fade := none }

/-- R88: a waiting fade starts at this boundary with the applied duty. -/
def Light.startFade (l : Light) : Light :=
  { l with fade := l.fade.map fun f =>
      match f.start with
      | none => { f with start := some l.applied, clock := 0 }
      | some _ => f }

/-- The boundary of one channel up to the end of a fade: grant, duty, slot, fades (R84, R88, R91). -/
def Light.boundary (l : Light) : Light :=
  let x := l.applyBoundary
  match l.lowering with
  | some (.to c) => ({ x with lowering := none }.refadeReduced c).startFade
  | _ => { x with lowering := none }.startFade

/-- R88: the fade has placed its last tick, and its start boundary has come. -/
def Light.fadeDone (l : Light) : Bool :=
  match l.fade with
  | some f => f.start.isSome && decide (f.ticks ≤ f.done)
  | none => false

/-- R89: what LCTL does at the end of a fade within the grant. -/
def Works.fadeAction (w : Works) (ch : LightId) (target : Nat) : Works :=
  let l := w.light ch
  match l.stance, l.cover with
  | .cut, _ => w
  | _, none => w
  | _, some c =>
    if target = 0 then
      (w.modLight ch fun l => { l with cover := none, stance := .none }).release (lightOut ch)
    else if target < c.duty then (w.askLight ch target).1
    else w

/-- R88, R89: a fade at its end boundary ends; on L5 a fade-out ends with it (R97). -/
def Works.endFade (w : Works) (ch : LightId) : Works :=
  match (w.light ch).fade with
  | some f =>
    if (w.light ch).fadeDone then
      ((w.modLight ch fun l => { l with fade := none }).endFadeOut ch).fadeAction ch f.target
    else w
  | none => w

/-- R85: the output's demand follows the applied duty. -/
def Works.lightDemand (w : Works) (ch : LightId) (before : Nat) : Works :=
  let d := (w.light ch).applied
  if d = before then w
  else w.setDemand (lightOut ch) (if d = 0 then none else some (.duty d))

/-- R97: a fade-out that a reduction ended at this boundary leaves L5 IDLE. -/
def Works.fadeOutReduced (w : Works) (ch : LightId) (before : Light) : Works :=
  match before.lowering with
  | some (.to _) => if before.applyBoundary.keepsFade then w else w.endFadeOut ch
  | _ => w

/-- R84, R85, R89: the boundary of one channel. -/
def Works.lightBoundary (w : Works) (ch : LightId) : Works :=
  let before := w.light ch
  let w := ((w.modLight ch Light.boundary).fadeOutReduced ch before).lightDemand ch before.applied
  w.endFade ch

/-- R62, R65: HFAN's duty of the new period: its demand, capped at the granted duty. -/
def Works.fanBoundary (w : Works) : Works :=
  let x := w.out HFAN
  let duty := match x.demand with
    | some (.duty d) => if x.isOn then min d ((x.grant.bind (·.duty)).getD d) else 0
    | _ => 0
  let w := { w with stages := { w.stages with fanDuty := duty } }
  if duty = 0 then w.modOut HFAN fun x => { x with current := 0 } else w

/-- R84: the six channels at a period boundary, and HFAN's, which falls at the same instant (R62). -/
def Works.boundary (w : Works) : Works := (allLights.foldl (fun w ch => w.lightBoundary ch) w).fanBoundary

/-- R89: a channel's fade reaches its last tick: its target is applied at the boundary and its end action taken. -/
def Works.fadeEnd (w : Works) (ch : LightId) : Works :=
  match (w.light ch).fade with
  | some f =>
    if f.start.isSome || decide (f.ticks = 0) then
      (w.modLight ch fun l => { l with pending := some f.target, fade := some { f with done := f.ticks } }).lightBoundary ch
    else w
  | none => w

end Sys2Proof.Machine
end

