-- ==== Sys2Proof/Machine/Motion.lean ====
section
/-! DEFINITION. The Motion Controller (chapter 8): the axis records, the Motion Queue, the stage selection, move endings,
the part's own moves, the depart warning, and what the motor stage does on each notice. -/

namespace Sys2Proof.Machine

/-! ## Axis records and the depart warning (R160) -/

def AxisRecord.isRetracted (r : AxisRecord) : Bool := match r.state with | .retracted => true | _ => false

/-- The set of axes other than RETRACTED (R160). -/
def Motion.outSet (m : Motion) : FlagSet := FlagSet.ofFlags [!m.awn.isRetracted, !m.step.isRetracted]

/-- R160: READY or DRIVING. -/
def Condition.moving : Condition → Bool
  | .ready => true
  | .driving => true
  | _ => false

/-- R160: the depart-warning line is judged; each change of it posts DEPART. -/
def Works.judgeDepart (w : Works) : Works :=
  let line := w.motion.condition.moving && (!w.motion.awn.isRetracted || !w.motion.step.isRetracted)
  if line = w.motion.depart then w
  else { w with motion := { w.motion with depart := line } }.postDepart ⟨line, w.motion.condition, w.motion.outSet⟩

def Motion.setAxis (m : Motion) (a : Axis) (r : AxisRecord) : Motion :=
  match a with
  | .awn => { m with awn := r }
  | .step => { m with step := r }

/-- An axis takes a state and a position; the line is judged where the state changed (R160). -/
def Works.moveAxis (w : Works) (a : Axis) (state : AxisState) (position : Option Nat) : Works :=
  let r := w.motion.axis a
  let w' := { w with motion := w.motion.setAxis a { r with state := state, position := position } }
  if r.state = state then w' else w'.judgeDepart

def Works.setStage (w : Works) (s : MotorStage) : Works := { w with motion := { w.motion with stage := s } }

def Works.setQueue (w : Works) (q : List QueueEntry) : Works := { w with motion := { w.motion with queue := q } }

/-! ## The Motion Queue (R143) -/

def Origin.isAuto : Origin → Bool
  | .host => false
  | .auto _ => true

/-- R143: AUTO entries first, each group by entry time. -/
def QueueEntry.before (e f : QueueEntry) : Bool :=
  (e.origin.isAuto && !f.origin.isAuto) || (e.origin.isAuto == f.origin.isAuto && decide (e.entryTime < f.entryTime))

def insertEntry (e : QueueEntry) : List QueueEntry → List QueueEntry
  | [] => [e]
  | f :: rest => if e.before f then e :: f :: rest else f :: insertEntry e rest

def withoutEntry (a : Axis) (q : List QueueEntry) : List QueueEntry := q.filter fun e => e.axis != a

/-- R143: a request for an axis that already has an entry replaces it. -/
def Works.enqueue (w : Works) (e : QueueEntry) : Works := w.setQueue (insertEntry e (withoutEntry e.axis w.motion.queue))

def Motion.entryOf (m : Motion) (a : Axis) : Option QueueEntry := m.queue.find? fun e => e.axis == a

/-- R161: the posting for a removed entry or an ended move. -/
def Works.postEntry (w : Works) (e : QueueEntry) (outcome : MoveOutcome) (cause : Option MoveCause) : Works :=
  w.postMotion e.axis (some e.direction) (some e.origin) outcome cause

/-! ## The end of a move, up to the selection (R149, R162) -/

/-- R162: a new travel moves its axis. -/
def AxisRecord.adoptTravel (r : AxisRecord) (old new : Nat) : AxisRecord :=
  if old = new then r
  else match r.state, r.position with
    | .extended, _ => { r with position := some new }
    | .part, some p => if new ≤ p then { r with state := .unknown, position := none } else r
    | _, _ => r

/-- R162: MCTL adopts the live MOTION-SETUP. -/
def Works.adoptMotion (w : Works) : Works :=
  let old := w.motion.adopted
  let new := w.link.live.motion
  let m := { w.motion with
    adopted := new
    awn := w.motion.awn.adoptTravel old.awnTravel new.awnTravel
    step := w.motion.step.adoptTravel old.stepTravel new.stepTravel }
  { w with motion := m }.judgeDepart

/-- How the axis stands after a move (R149 to R153). -/
inductive AxisEnd
  /-- short: PARTIAL where the position was known at drive start, UNKNOWN otherwise; a move in PAUSING leaves it -/
  | short
  | atRetracted
  | atExtended
  | lost
  deriving DecidableEq, Repr

/-- R149, item 2. Every ending of a driven move that is no end, stall of a RETRACT or overrun is short; for DENIED REVOKED
(R147) and STOPPED CUT (R148) no rule says so (DEDUCED, log entry 34). -/
def Works.endAxis (w : Works) (m : HeldMove) (result : AxisEnd) : Works :=
  let a := m.entry.axis
  match w.motion.stage, result with
  | .driving _, .short =>
    if m.known then w.moveAxis a .part (w.motion.axis a).position else w.moveAxis a .unknown none
  | .driving _, .atRetracted => w.moveAxis a .retracted (some 0)
  | .driving _, .atExtended => w.moveAxis a .extended (some (w.motion.adopted.travel a))
  | .driving _, .lost => w.moveAxis a .unknown none
  | _, _ => w

/-- R149, item 3: the causes after which a RETRACT goes back into the queue. -/
def MoveCause.requeues : MoveCause → Bool
  | .revoked => true
  | .cut => true
  | .latched => true
  | _ => false

/-- R149 up to the selection: the demand, the axis, the queue, MOTION, the adoption, the stage IDLE. -/
def Works.endMove (w : Works) (m : HeldMove) (outcome : MoveOutcome) (cause : Option MoveCause) (result : AxisEnd) :
    Works :=
  let w := (w.setDemand MOTOR none).endAxis m result
  let again := match cause, m.entry.direction with
    | some c, .retract => c.requeues
    | _, _ => false
  let w := if again then w.enqueue m.entry else w
  ((w.postEntry m.entry outcome cause).adoptMotion).setStage .idle

/-! ## Taking an entry and the drive start (R146) -/

/-- R146: the pause of a move. -/
def pauseFor (last : Option (Axis × Direction)) (e : QueueEntry) : Nat :=
  match last with
  | none => 200
  | some (a, d) => if a ≠ e.axis then 200 else if d ≠ e.direction then 300 else 0

/-- R146: the checks of an EXTEND at its drive start. -/
def Works.extendBar (w : Works) (a : Axis) : Option MoveCause :=
  if w.vehicle.condition.moving then some .condition
  else if a = .awn ∧ w.motion.windHold.isSome then some .wind
  else if (w.motion.axis a).state = .unknown then some .unknown
  else none

/-- The switch at the target of a move is CLOSED (R150). A position that equals the travel already does not end an EXTEND at
its drive start: it drives on to its next pulse (DEDUCED, log entry 34). -/
def Motion.atTarget (m : Motion) (a : Axis) (d : Direction) : Bool :=
  match a, d with
  | _, .retract => (m.axis a).retractedSwitch
  | .step, .extend => m.step.extendedSwitch
  | .awn, .extend => false

def doneEnd : Direction → AxisEnd
  | .extend => .atExtended
  | .retract => .atRetracted

/-- R146: the drive of a move whose checks are passed; STEP entering EXTENDING is a courtesy trigger (R96). -/
def Works.drive (w : Works) (m : HeldMove) : Works × HeldMove :=
  let a := m.entry.axis
  let d := m.entry.direction
  let held : HeldMove :=
    { m with pauseLeft := 0, stallTimer := none, jamTimer := 0, count := 0, known := (w.motion.axis a).position.isSome }
  let w := w.moveAxis a (match d with | .extend => .extending | .retract => .retracting) (w.motion.axis a).position
  let w := { w with motion := { w.motion with last := some (a, d), stage := .driving held } }
  let w := w.setDemand MOTOR (some (.motor a d))
  (if a = .step ∧ d = .extend then w.courtesyTrigger else w, held)

/-- R146, R150: the drive start; answers whether the move ended at once. -/
def Works.driveStart (w : Works) (m : HeldMove) : Works × Bool :=
  let a := m.entry.axis
  let d := m.entry.direction
  let bar := match d with | .extend => w.extendBar a | .retract => none
  match bar with
  | some cause => (w.endMove m .denied (some cause) .short, true)
  | none =>
    let x := w.drive m
    if x.1.motion.atTarget a d then (x.1.endMove x.2 .done none (doneEnd d), true) else (x.1, false)

/-- R146: the stage takes an entry; answers whether the move ended at once. -/
def Works.takeEntry (w : Works) (e : QueueEntry) : Works × Bool :=
  let m : HeldMove := ⟨e, pauseFor w.motion.last e, none, 0, 0, false⟩
  let w := (w.setQueue (withoutEntry e.axis w.motion.queue)).setStage (.pausing m)
  if m.pauseLeft = 0 then w.driveStart m else (w, false)

/-! ## The stage selection (R145) -/

/-- MOTOR's request for an entry, from its adopted record; the answer is taken within the selection, so the arbiter's
notices to MCTL itself are not put on their way (R145, R147). -/
def Works.askMotor (w : Works) (e : QueueEntry) : Works :=
  let waiting := w.inbox.length
  let w := w.adopt MOTOR
  let rated := (w.out MOTOR).load.rated
  let w := (w.ask ⟨MOTOR, (match e.direction with | .retract => 0 | .extend => 3), rated, rated, none, none⟩).1
  { w with inbox := w.inbox.take waiting ++ (w.inbox.drop waiting).filter fun n =>
      match n with
      | .grant o _ => o != MOTOR
      | .stage _ _ => true }

/-- R145: the entries tried in order, up to the first granted. -/
def Works.tryEntries (w : Works) : List QueueEntry → Works × Option QueueEntry
  | [] => (w, none)
  | e :: rest =>
    let w := w.askMotor e
    if (w.out MOTOR).grant.isSome then (w, some e) else w.tryEntries rest

/-- MOTOR holds a grant or a standing request (R145). -/
def Works.motorStanding (w : Works) : Bool :=
  (w.out MOTOR).grant.isSome || (w.arbiter.waitOf MOTOR).isSome || (w.out MOTOR).heldRequest.isSome

/-- R145: one stage selection; answers whether an entry was taken whose move ended at once. In CUT-WAIT the request goes to
the output stage, which in ASKED passes it on (R66): a grant then takes the entry before RESTORED follows (R73, R147). -/
def Works.selectOnce (w : Works) : Works × Bool :=
  match w.motion.queue with
  | [] => ((if w.motorStanding then w.release MOTOR else w).setStage .idle, false)
  | first :: rest =>
    if (w.out MOTOR).isCut then
      let w := w.askMotor first
      if (w.out MOTOR).grant.isSome then w.takeEntry first else (w.setStage (.asking first.axis), false)
    else
      let r := w.tryEntries (first :: rest)
      match r.2 with
      | some e => r.1.takeEntry e
      | none =>
        let w := if rest.isEmpty then r.1 else r.1.askMotor first
        (w.setStage (.asking first.axis), false)

/-- R145, R149: the selection, run again after each move that ended at its own drive start. The queue holds at most two
entries and each such end takes one out, so `fuel` is never used up. -/
def Works.select (w : Works) : Nat → Works
  | 0 => w
  | fuel + 1 =>
    let r := w.selectOnce
    if r.2 then r.1.select fuel else r.1

/-- More selections than the queue can call for. -/
def selectFuel : Nat := 4

def Works.selection (w : Works) : Works := w.select selectFuel

/-- R143: a queue change while the stage is IDLE or ASKING runs the stage selection. -/
def Works.queueChanged (w : Works) : Works :=
  match w.motion.stage with
  | .idle => w.selection
  | .asking _ => w.selection
  | _ => w

/-- R149: a move ends and the selection runs. -/
def Works.finishMove (w : Works) (m : HeldMove) (outcome : MoveOutcome) (cause : Option MoveCause) (result : AxisEnd) :
    Works :=
  (w.endMove m outcome cause result).selection

/-! ## Timers, pulses and switches (R141, R142, R144, R146, R150 to R153) -/

/-- R146: a drive start, and the selection where the move ended at it (R149). -/
def Works.startDrive (w : Works) (m : HeldMove) : Works :=
  let r := w.driveStart m
  if r.2 then r.1.selection else r.1

/-- R146: the pause has run out. -/
def Works.pauseOut (w : Works) : Works :=
  match w.motion.stage with
  | .pausing m => if m.pauseLeft = 0 then w.startDrive m else w
  | _ => w

/-- R144: an EXTEND entry has stood in the queue for 30 s, at an uptime in ms. -/
def QueueEntry.expired (e : QueueEntry) (now : Nat) : Bool :=
  e.direction == .extend && decide (30000 ≤ now - e.entryTime)

/-- R144: an EXTEND entry that has stood for 30 s expires. -/
def Works.entryExpiry (w : Works) (a : Axis) : Works :=
  match w.motion.entryOf a with
  | some e =>
    if e.expired w.vehicle.uptime then
      ((w.setQueue (withoutEntry a w.motion.queue)).postEntry e .denied (some .expired)).queueChanged
    else w
  | none => w

/-- The limit of a retract's move count (R153). -/
def overrunLimit (travel : Nat) : Nat := 120 * travel / 100

/-- R150: an EXTEND has reached its travel. -/
def Works.travelReached (w : Works) : Works :=
  match w.motion.stage with
  | .driving m => if m.entry.direction = .extend then w.finishMove m .done none .atExtended else w
  | _ => w

/-- R153: a RETRACT has passed its limit. -/
def Works.moveOverrun (w : Works) : Works :=
  match w.motion.stage with
  | .driving m => if m.entry.direction = .retract then w.finishMove m .overrun none .lost else w
  | _ => w

/-- R141, R150, R152, R153: a hall pulse of an axis; it counts where the stage is driving that axis. -/
def Works.hallPulse (w : Works) (a : Axis) : Works :=
  match w.motion.stage with
  | .driving m =>
    if m.entry.axis = a then
      let r := w.motion.axis a
      let position := match m.entry.direction with
        | .extend => r.position.map (· + 1)
        | .retract => r.position.map (· - 1)
      let held := { m with count := m.count + 1, jamTimer := 0 }
      let w := { w with motion := { w.motion.setAxis a { r with position := position } with stage := .driving held } }
      let travel := w.motion.adopted.travel a
      match m.entry.direction with
      | .extend => if travel ≤ position.getD 0 then w.travelReached else w
      | .retract => if overrunLimit travel < held.count then w.moveOverrun else w
    else w
  | _ => w

/-- R151: the stall timer has run 300 ms. -/
def Works.stalled (w : Works) : Works :=
  match w.motion.stage with
  | .driving m =>
    w.finishMove m .stall none (match m.entry.direction with | .extend => .short | .retract => .lost)
  | _ => w

/-- R151: the stall test at a refresh of MOTOR's measured current. -/
def Works.stallTest (w : Works) : Works :=
  match w.motion.stage with
  | .driving m =>
    let setTimer (t : Option Nat) : Works := w.setStage (.driving { m with stallTimer := t })
    if w.motion.adopted.stall m.entry.axis < (w.out MOTOR).current then
      match m.stallTimer with
      | none => setTimer (some 0)
      | some t => if 300 ≤ t + refreshInterval then w.stalled else setTimer (some (t + refreshInterval))
    else setTimer none
  | _ => w

/-- R151: the expiry of a running stall timer. -/
def Works.stallExpiry (w : Works) : Works :=
  match w.motion.stage with
  | .driving m => if m.stallTimer.isSome then w.stalled else w
  | _ => w

/-- R152: the jam time, in ms. -/
def jamLimit : Nat := 500

/-- R152: the jam timer has reached 500 ms. -/
def Works.jammed (w : Works) : Works :=
  match w.motion.stage with
  | .driving m => if jamLimit ≤ m.jamTimer then w.finishMove m .jam none .short else w
  | _ => w

/-- The axis a switch belongs to, and whether it is the retracted one. -/
def switchAxis : AxisSwitch → Axis × Bool
  | .awnRetracted => (.awn, true)
  | .stepRetracted => (.step, true)
  | .stepExtended => (.step, false)

/-- The stage is driving the axis. -/
def Motion.drives (m : Motion) (a : Axis) : Bool :=
  match m.stage with
  | .driving h => h.entry.axis == a
  | _ => false

/-- R142: a switch change on an axis that is not driven. -/
def Works.undrivenSwitch (w : Works) (a : Axis) (retractedOne closed : Bool) : Works :=
  let post (w : Works) : Works := w.postMotion a none none .switch none
  match retractedOne, closed, (w.motion.axis a).state with
  | true, true, .retracted => w
  | true, true, _ => post (w.moveAxis a .retracted (some 0))
  | true, false, .retracted => post (w.moveAxis a .unknown none)
  | false, true, .part => post (w.moveAxis a .extended (some (w.motion.adopted.travel a)))
  | false, true, .unknown => post (w.moveAxis a .extended (some (w.motion.adopted.travel a)))
  | _, _, _ => w

def AxisRecord.setSwitch (r : AxisRecord) (retractedOne closed : Bool) : AxisRecord :=
  if retractedOne then { r with retractedSwitch := closed } else { r with extendedSwitch := closed }

/-- R142, R150: a change of a debounced axis switch. -/
def Works.switchChanged (w : Works) (s : AxisSwitch) (closed : Bool) : Works :=
  let a := (switchAxis s).1
  let retractedOne := (switchAxis s).2
  let w := { w with motion := w.motion.setAxis a ((w.motion.axis a).setSwitch retractedOne closed) }
  match w.motion.stage with
  | .driving m =>
    if m.entry.axis = a then
      let ends := match m.entry.direction with | .retract => retractedOne | .extend => !retractedOne
      if ends && closed then w.finishMove m .done none (doneEnd m.entry.direction) else w
    else w.undrivenSwitch a retractedOne closed
  | _ => w.undrivenSwitch a retractedOne closed

/-! ## Requests (R154, R155) -/

/-- An AUTO RETRACT of an axis is queued or held. -/
def Motion.autoRetract (m : Motion) (a : Axis) : Bool :=
  let is (e : QueueEntry) : Bool := e.axis == a && e.direction == .retract && e.origin.isAuto
  m.queue.any is || (match m.stage.move? with | some h => is h.entry | none => false)

/-- The move of an axis that the stage holds. -/
def Motion.heldOf (m : Motion) (a : Axis) : Option HeldMove :=
  match m.stage.move? with
  | some h => if h.entry.axis = a then some h else none
  | none => none

/-- The answers to MOVE and STOP-MOVE: an INTERLOCK names its interlock (R154). -/
inductive MoveAnswer
  | ok
  | queued
  | autoRetract
  | barred (cause : MoveCause)
  deriving DecidableEq, Repr

/-- R154, row 2: the interlock on an EXTEND, in the order the row names them. -/
def Works.moveBar (w : Works) (a : Axis) (d : Direction) : Option MoveCause :=
  match d with
  | .retract => none
  | .extend =>
    if (w.motion.axis a).state = .unknown then some .unknown
    else if w.vehicle.condition.moving then some .condition
    else if a = .awn ∧ w.motion.windHold.isSome then some .wind
    else none

/-- R154, row 5: the axis stands at the target. -/
def AxisRecord.standsAt (r : AxisRecord) (d : Direction) : Bool :=
  match r.state, d with
  | .retracted, .retract => true
  | .extended, .extend => true
  | _, _ => false

/-- R154, R155: a queued entry is removed by a request. -/
def Works.removeEntry (w : Works) (a : Axis) : Works :=
  match w.motion.entryOf a with
  | some e => ((w.setQueue (withoutEntry a w.motion.queue)).postEntry e .stopped (some .host)).queueChanged
  | none => w

/-- R154: MOVE. The answer is `queued` where a row has queued an entry: the reply then follows from the queue. -/
def Works.moveRequest (w : Works) (a : Axis) (d : Direction) : Works × MoveAnswer :=
  let entry : QueueEntry := ⟨a, d, .host, w.vehicle.uptime⟩
  if w.motion.autoRetract a then (w, .autoRetract)
  else match w.moveBar a d with
    | some cause => (w, .barred cause)
    | none =>
      match w.motion.heldOf a with
      | some m =>
        if m.entry.direction = d then (w, .ok)
        else (((w.endMove m .stopped (some .host) .short).enqueue entry).selection, .queued)
      | none =>
        if (w.motion.axis a).standsAt d then (w.removeEntry a, .ok)
        else ((w.enqueue entry).queueChanged, .queued)

/-- R155: STOP-MOVE. -/
def Works.stopRequest (w : Works) (a : Axis) : Works × MoveAnswer :=
  if w.motion.autoRetract a then (w, .autoRetract)
  else match w.motion.heldOf a with
    | some m => (w.finishMove m .stopped (some .host) .short, .ok)
    | none => (w.removeEntry a, .ok)

/-! ## The part's own moves (R156 to R159) -/

def AutoReason.cause : AutoReason → MoveCause
  | .ignition => .ignition
  | .wind => .wind
  | .door => .door

/-- R156: an AUTO EXTEND is dropped. -/
def Works.autoExtendDropped (w : Works) (a : Axis) : Bool :=
  w.motion.autoRetract a || (w.motion.heldOf a).isSome
    || (match (w.motion.axis a).state with
        | .unknown => true
        | .extending => true
        | .extended => true
        | _ => false)
    || w.vehicle.condition != .parked

/-- R156, up to the selection: answers whether the queue changed or a move ended. -/
def Works.autoRequest (w : Works) (a : Axis) (d : Direction) (reason : AutoReason) : Works × Bool :=
  let entry : QueueEntry := ⟨a, d, .auto reason, w.vehicle.uptime⟩
  let dropped := match d with
    | .extend => w.autoExtendDropped a
    | .retract => (w.motion.axis a).isRetracted && (w.motion.heldOf a).isNone
  if dropped then (w, false)
  else match w.motion.stage.move? with
    | none => (w.enqueue entry, true)
    | some m =>
      if m.entry.axis = a then
        if m.entry.direction = d then
          let held := { m with entry := { m.entry with origin := .auto reason } }
          (w.setStage (match w.motion.stage with | .driving _ => .driving held | _ => .pausing held), false)
        else ((w.endMove m .preempted (some reason.cause) .short).enqueue entry, true)
      else if m.entry.origin.isAuto then (w.enqueue entry, true)
      else ((w.endMove m .preempted (some reason.cause) .short).enqueue entry, true)

/-- The selection after an operation that changed the queue or ended a move. -/
def Works.settleQueue (r : Works × Bool) : Works := if r.2 then r.1.queueChanged else r.1

/-- R157: a queued HOST EXTEND of AWN is dropped as the wind hold becomes active. -/
def Works.dropForWind (w : Works) : Works × Bool :=
  match w.motion.entryOf .awn with
  | some e =>
    if e.direction = .extend ∧ e.origin = .host then
      ((w.setQueue (withoutEntry .awn w.motion.queue)).postEntry e .denied (some .wind), true)
    else (w, false)
  | none => (w, false)

/-- R157: the wind test passes: the hold becomes active, a queued HOST EXTEND of AWN is dropped, and an AUTO RETRACT of
AWN is raised where AWN is not RETRACTED. That the entry is dropped first, so that MOTION is posted for it, and that the
drop and the AUTO RETRACT share one stage selection, in which the standing request is replaced, are log entry 15
(DEDUCED). -/
def Works.windPassed (w : Works) : Works :=
  let r := { w with motion := { w.motion with windHold := some 600000 } }.dropForWind
  if r.1.motion.awn.isRetracted then Works.settleQueue r
  else
    let x := r.1.autoRequest .awn .retract .wind
    Works.settleQueue (x.1, r.2 || x.2)

/-- R157: a WIND publication with its pass length. -/
def Works.takeWind (w : Works) (r : Reading) (passLength : Nat) : Works :=
  let speed := r.usable.map fun c => c.toNat * w.motion.adopted.windScale * 100 / passLength
  let still := match w.vehicle.condition with | .parked => true | .dormant => true | _ => false
  let isOver := still && (match speed with | some v => decide (w.motion.adopted.windLimit ≤ v) | none => false)
  let window := w.motion.window.drop 1 ++ [isOver]
  let hold := w.motion.windHold
  let w := { w with motion := { w.motion with
    speed := match speed with | some v => some v | none => w.motion.speed
    window := window
    windHold := if isOver then hold.map (fun _ => 600000) else hold } }
  if isOver && decide (3 ≤ window.count true) then w.windPassed else w

/-- R157: the hold timer has run out. -/
def Works.windHoldOut (w : Works) : Works :=
  if w.motion.windHold = some 0 then { w with motion := { w.motion with windHold := none } } else w

/-- R158, item 2: every queued EXTEND is dropped. -/
def Works.dropExtends (w : Works) : List QueueEntry → Works × Bool
  | [] => (w, false)
  | e :: rest =>
    match e.direction with
    | .extend =>
      let w := (w.setQueue (withoutEntry e.axis w.motion.queue)).postEntry e .denied (some .condition)
      ((w.dropExtends rest).1, true)
    | .retract => w.dropExtends rest

/-- R158, item 1: a held EXTEND ends PREEMPTED. -/
def Works.preemptExtend (w : Works) : Works × Bool :=
  match w.motion.stage.move? with
  | some m =>
    if m.entry.direction = .extend then (w.endMove m .preempted (some .ignition) .short, true) else (w, false)
  | none => (w, false)

/-- R158: the entry to READY, as one operation with one selection at its end. -/
def Works.ignitionRetract (w : Works) : Works :=
  let r1 := w.preemptExtend
  let r2 := r1.1.dropExtends r1.1.motion.queue
  let r3 := if r2.1.motion.step.isRetracted then (r2.1, false) else r2.1.autoRequest .step .retract .ignition
  Works.settleQueue (r3.1, r1.2 || r2.2 || r3.2)

/-- R158, R160: MCTL takes a condition change. -/
def Works.motionCondition (w : Works) (new old : Condition) : Works :=
  let w := { w with motion := { w.motion with condition := new } }.judgeDepart
  if new = .ready ∧ old = .parked then w.ignitionRetract else w

/-- R159: a DOOR opening taken by MCTL. -/
def Works.doorStep (w : Works) : Works :=
  if w.motion.adopted.autoStep ∧ w.vehicle.condition = .parked then
    Works.settleQueue (w.autoRequest .step .extend .door)
  else w

/-! ## Notices for MOTOR (R147, R148) -/

/-- R147; a driven move that REVOKED ends, ends short (DEDUCED, log entry 34). -/
def Works.motorNotice (w : Works) : GrantNotice → Works
  | .granted _ _ =>
    match w.motion.stage with
    | .asking a =>
      match w.motion.entryOf a with
      | some e =>
        let r := w.takeEntry e
        if r.2 then r.1.selection else r.1
      | none => w.selection
    | _ => w
  | .revoked =>
    match w.motion.stage with
    | .pausing m => w.finishMove m .denied (some .revoked) .short
    | .driving m => w.finishMove m .denied (some .revoked) .short
    | .asking _ => w.selection
    | _ => w
  | _ => w

/-- R148; a driven move that CUT ends, ends short (DEDUCED, log entry 34). -/
def Works.motorStageNotice (w : Works) : StageNotice → Works
  | .cut =>
    match w.motion.stage.move? with
    | some m => w.finishMove m .stopped (some .cut) .short
    | none => w
  | .latched =>
    let w := match w.motion.stage.move? with
      | some m => w.endMove m .stopped (some .latched) .short
      | none => w
    (w.release MOTOR).setStage .held
  | .cleared =>
    match w.motion.stage with
    | .held => (w.setStage .idle).selection
    | _ => w
  | _ => w

end Sys2Proof.Machine
end

