-- ==== Sys2Proof/Machine/Notices.lean ====
section
/-! DEFINITION. The delivery of notices to their owners (R56, R80): first in, first out, each taken whole by its owner's
own chapter, and whatever it causes joins the end (log entry 4). -/

namespace Sys2Proof.Machine

/-- An owner takes a notice of the arbiter. LINK takes AUX's notices, and they move nothing there (R189). -/
def Works.deliverGrant (w : Works) (o : OutId) (n : GrantNotice) : Works :=
  match outLight? o with
  | some ch => w.lightNotice ch n
  | none =>
    if o = PUMP then w.pumpNotice n
    else if o = HFAN then w.fanNotice n
    else if o = HBRN then w.burnerNotice n
    else if o = DRAIN then w.drainNotice n
    else if o = MOTOR then w.motorNotice n
    else w

/-- An owner takes a notice of the output stage (R80). -/
def Works.deliverStage (w : Works) (o : OutId) (n : StageNotice) : Works :=
  match outLight? o with
  | some ch => w.lightStage ch n
  | none =>
    if o = PUMP then w.pumpStage n
    else if o = HFAN then w.fanStage n
    else if o = HBRN then w.burnerStage n
    else if o = DRAIN then w.drainStage n
    else if o = MOTOR then w.motorStageNotice n
    else w

def Works.deliver (w : Works) : Notice → Works
  | .grant o n => w.deliverGrant o n
  | .stage o n => w.deliverStage o n

/-- The notices delivered in their order, up to `fuel` of them (log entry 4). -/
def Works.drain (w : Works) : Nat → Works
  | 0 => w
  | fuel + 1 =>
    match w.inbox with
    | [] => w
    | n :: rest => ({ w with inbox := rest }.deliver n).drain fuel

/-- More deliveries than one operation's notices call for. -/
def drainFuel : Nat := 256

/-- Every notice delivered, so that none waits when the command is done; past `drainFuel` deliveries, which no operation
calls for, a rest would be dropped (log entry 4). -/
def Works.settle (w : Works) : Works := { w.drain drainFuel with inbox := [] }

end Sys2Proof.Machine
end

