-- ==== Sys2Proof/Machine/Vehicle.lean ====
section
/-! DEFINITION. The Vehicle Condition Unit (chapter 9): condition changes and their publication, the silence timer, Dormant
entry and wake. -/

namespace Sys2Proof.Machine

/-- R167: a condition change is published to LCTL and to MCTL, each of which takes it whole, LCTL first (DEDUCED, log
entry 20). -/
def Works.publishCondition (w : Works) (new old : Condition) : Works :=
  ((w.outdoor new old).settle.motionCondition new old).settle

/-- R167, R168: the condition becomes `new`; an entry to PARKED restarts the silence timer and any other entry stops
it. -/
def Works.setCondition (w : Works) (new : Condition) : Works :=
  { w with vehicle := { w.vehicle with
      condition := new
      silence := if new = .parked then some 0 else none } }

/-- R167: every condition change except a wake posts VEHICLE. -/
def Works.changeCondition (w : Works) (new : Condition) : Works :=
  let old := w.vehicle.condition
  let w := (w.setCondition new).publishCondition new old
  w.postVehicle ⟨new, old, w.vehicle.ign, w.vehicle.dplus, w.seconds⟩

/-- R171, R172: a wake source taken while DORMANT wakes the part; in any other condition it is not a wake. -/
def Works.wake (w : Works) (reason : WakeReason) : Works :=
  match w.vehicle.condition with
  | .dormant =>
    let dormantFor := (w.vehicle.uptime - w.vehicle.dormantAt) / 1000
    let w := w.setCondition .parked
    let w := { w with vehicle := { w.vehicle with justWoken := true, lastWake := some (reason, w.seconds) } }
    (w.publishCondition .parked .dormant).postWake reason w.seconds dormantFor
  | _ => w

/-- R167: PARKED with IGN becoming ON: READY, then DRIVING at once if DPLUS is ON. -/
def Works.ignitionOn (w : Works) : Works :=
  let w := w.changeCondition .ready
  if w.vehicle.dplus then w.changeCondition .driving else w

/-- R166, R167, R171: a change of the debounced IGN. -/
def Works.ignChanged (w : Works) (on : Bool) : Works :=
  let w := { w with vehicle := { w.vehicle with ign := on } }
  match on, w.vehicle.condition with
  | true, .parked => w.ignitionOn
  | true, .dormant => (w.wake .ign).ignitionOn
  | false, .ready => w.changeCondition .parked
  | false, .driving => w.changeCondition .parked
  | _, _ => w

/-- R167: a change of the debounced DPLUS. -/
def Works.dplusChanged (w : Works) (on : Bool) : Works :=
  let w := { w with vehicle := { w.vehicle with dplus := on } }
  match on, w.vehicle.condition with
  | true, .ready => w.changeCondition .driving
  | false, .driving => w.changeCondition .ready
  | _, _ => w

/-- R166, R171: a change of the debounced DOOR; an opening that wakes is handed on after the wake. That the Lighting Controller
takes the opening, and its request is settled, before the Motion Controller takes it is log entry 20 (DEDUCED). -/
def Works.doorChanged (w : Works) (opened : Bool) : Works :=
  let w := { w with vehicle := { w.vehicle with door := opened } }
  if opened then ((w.wake .door).courtesyTrigger.settle).doorStep.settle else w

/-! ## Dormant entry (R168 to R170) -/

/-- R169: the number of the first item of the Dormant entry test that fails; none where all five hold. -/
def Works.dormantBar (w : Works) : Option Nat :=
  if !(w.arbiter.grants.all fun r => r.out == DRAIN) then some 1
  else if !(w.motion.queue.isEmpty && w.motion.stage.move?.isNone) then some 2
  else if !(w.climate.heater.phase == .off || w.climate.heater.phase == .lockout) then some 3
  else if w.water.pump == .running then some 4
  else if allLights.any fun ch => (w.light ch).fade.isSome then some 5
  else none

/-- R169: DORMANT is entered. -/
def Works.enterDormant (w : Works) : Works :=
  { w with vehicle := { w.vehicle with dormantAt := w.vehicle.uptime } }.changeCondition .dormant

/-- R168: the silence timer restarts. -/
def Works.restartSilence (w : Works) : Works :=
  { w with vehicle := { w.vehicle with silence := w.vehicle.silence.map fun _ => 0 } }

/-- R168: the silence timer has reached the silence time while PARKED. -/
def Works.silenceDue (w : Works) : Bool :=
  w.vehicle.condition == .parked && decide (w.link.live.link.silence ≠ 0)
    && reached w.vehicle.silence (w.link.live.link.silence * 60000)

/-- R168, R169: the silence expiry and the Dormant entry test. -/
def Works.silenceOut (w : Works) : Works :=
  if w.silenceDue then
    match w.dormantBar with
    | none => w.enterDormant
    | some _ => w.restartSilence
  else w

/-- The answers to SLEEP (R170). -/
inductive SleepAnswer
  | ok
  | busy (item : Nat)
  | interlock
  deriving DecidableEq, Repr

/-- R170: how SLEEP is judged; on `ok` the part enters DORMANT once the reply is built. -/
def Works.judgeSleep (w : Works) : SleepAnswer :=
  match w.vehicle.condition with
  | .parked =>
    match w.dormantBar with
    | none => .ok
    | some item => .busy item
  | _ => .interlock

/-- R182, R168, R171: a good frame for this unit: it wakes a DORMANT part, and the silence timer restarts. -/
def Works.frameHeard (w : Works) : Works := (w.wake .frame).restartSilence

end Sys2Proof.Machine
end

