-- ==== Sys2Proof/Machine/Energy.lean ====
section
/-! DEFINITION. The Energy Account (chapter 2): the ten stages of a bank pair as functions of the account, MARK-FULL, and
what a pair publishes and posts. -/

namespace Sys2Proof.Machine

/-! ## The words of the account -/

/-- Qfull: C × 3 600 000 (section 2.1). -/
def qFullOf (capacity : Nat) : Nat := capacity * 3600000

def Account.qFull (a : Account) : Nat := qFullOf a.bank.capacity

/-- A BANK-SETUP voltage point; V10 where the index is beyond (it never is). -/
def BankSetup.point (b : BankSetup) (i : Nat) : Nat := b.points.toList.getD i 0

/-- R18, within the table: the points are searched from V9 downward. -/
def tableSegment (b : BankSetup) (v : Nat) : Nat → Nat
  | 0 => 0
  | i + 1 =>
    if b.point i ≤ v then 100 * i + 100 * (v - b.point i) / (b.point (i + 1) - b.point i)
    else tableSegment b v i

/-- R18: the table state of charge of a voltage. -/
def BankSetup.tableSoc (b : BankSetup) (v : Int) : Nat :=
  if v < b.point 0 then 0
  else if (b.point 10 : Int) ≤ v then 1000
  else tableSegment b v.toNat 10

/-- R18: Q set from the table at a state of charge. -/
def Account.qFromTable (a : Account) (soc : Nat) : Nat := a.qFull * soc / 1000

/-- R28: S of a charge under a Qfull. -/
def socOf (q qFull : Nat) : Nat := 1000 * q / qFull

/-- R29: the cold penalty. -/
def coldPenaltyOf (temp : Reading) : Nat :=
  match temp.usable with
  | some t => if 100 ≤ t then 0 else min 150 ((100 - t) / 2).toNat
  | none => 150

/-- Section 2.5: the margin of a confidence. -/
def Confidence.margin : Confidence → Nat
  | .estimated => 50
  | .drifted => 30
  | _ => 0

/-! ## A bank pair, stage by stage (R16) -/

/-- A bank pair (R9). -/
structure BankPair where
  bv : Reading
  bi : Reading
  passLength : Nat

/-- What the stages of one pair carry on beside the account: whether stage 2 estimated, the increment of stage 3, whether
confidence changed, whether SHED-SETUP was adopted with a change. -/
structure PairRun where
  account : Account
  estimated : Bool
  increment : Int
  confChanged : Bool
  shedAdopted : Bool

/-- Confidence is set, and a change is noted (R32). -/
def PairRun.setConfidence (r : PairRun) (c : Confidence) : PairRun :=
  { r with account := { r.account with confidence := c }, confChanged := r.confChanged || r.account.confidence != c }

/-- R35: a capacity change rescales Q from the capacity it was held under. -/
def Account.adoptCapacity (a : Account) (capacity : Nat) : Account :=
  if capacity = a.heldCapacity then a
  else { a with
    q := qFullOf capacity * socOf a.q (qFullOf a.heldCapacity) / 1000
    heldCapacity := capacity }

/-- Stage 1 (R35, R36): answers also whether the chemistry changed. -/
def Account.adopt (a : Account) (bank : BankSetup) (shed : ShedSetup) : PairRun × Bool :=
  let chem := a.bank.chemistry != bank.chemistry
  (⟨{ a.adoptCapacity bank.capacity with bank := bank, shedSetup := shed }, false, 0, false, a.shedSetup != shed⟩, chem)

/-- Q, the last table result and throughput after a conversion of a given kind that sets Q (R18). -/
def Account.setFromTable (a : Account) (v : Int) (kind : TableKind) : Account :=
  let soc := a.bank.tableSoc v
  { a with q := a.qFromTable soc, lastTable := some (soc, kind), throughput := 0 }

/-- Stage 2 (R19, R35). A chemistry adopted with an INVALID BV leaves the rest attempt as it is and returns throughput to 0
(DEDUCED, log entry 12). -/
def PairRun.estimate (r : PairRun) (p : BankPair) (chem : Bool) : PairRun :=
  match r.account.confidence, chem, p.bv.usable with
  | .unknown, _, some v =>
    { r with account := r.account.setFromTable v .estimate, estimated := true }.setConfidence .estimated
  | .unknown, _, none => r
  | _, true, some v =>
    { r with account := { r.account.setFromTable v .estimate with restTaken := false }, estimated := true }.setConfidence
      .estimated
  | _, true, none => { r with account := { r.account with throughput := 0 } }.setConfidence .estimated
  | _, false, _ => r

/-- R20: the increment of a BI over a pass of scale s. -/
def chargeIncrement (bi : Int) (scale efficiency : Nat) : Int :=
  if bi ≤ 0 then 5 * (scale : Int) * bi else (5 * (scale : Int) * bi * efficiency) / 1000

/-- R21: a usable BI at a limit. -/
def saturatedBi (bi : Reading) : Bool :=
  match bi.usable with
  | some x => x == 30000 || x == -30000
  | none => false

/-- Stage 3 (R20 to R22). -/
def PairRun.integrate (r : PairRun) (p : BankPair) : PairRun :=
  let r := { r with account := { r.account with saturated := saturatedBi p.bi } }
  match r.account.confidence, p.bi.usable with
  | .unknown, _ => r
  | .calibrated, none => r.setConfidence .drifted
  | _, none => r
  | _, some bi =>
    if r.estimated then r
    else
      let dq := chargeIncrement bi (p.passLength / 500) r.account.bank.efficiency
      { r with
        increment := dq
        account := { r.account with
          q := (clampInt 0 r.account.qFull ((r.account.q : Int) + dq)).toNat
          lastIncrement := dq } }

/-- Stage 4 (R23). -/
def PairRun.count (r : PairRun) : PairRun :=
  match r.account.confidence with
  | .calibrated =>
    if r.increment < 0 then
      let t := r.account.throughput + r.increment.natAbs
      let r := { r with account := { r.account with throughput := t } }
      if r.account.qFull * r.account.bank.driftCycles ≤ t then r.setConfidence .drifted else r
    else r
  | _ => r

/-- R24: the rest clock. -/
def Account.moveRest (a : Account) (p : BankPair) : Account :=
  match p.bi.usable with
  | some bi =>
    if bi.natAbs ≤ 20 then
      match a.restClock with
      | some t => { a with restClock := some (t + p.passLength) }
      | none => { a with restClock := some 0, restTaken := false }
    else { a with restClock := none, restTaken := false }
  | none => { a with restClock := none, restTaken := false }

/-- R25: whether a conversion at rest calibrates. -/
def restCalibrates (c : Chemistry) (soc : Nat) : Bool :=
  match c with
  | .lead => true
  | .lithium => decide (soc ≤ 100) || decide (950 ≤ soc)

/-- R25: the attempt itself, with a usable BV. -/
def PairRun.attempt (r : PairRun) (v : Int) : PairRun :=
  let soc := r.account.bank.tableSoc v
  if restCalibrates r.account.bank.chemistry soc then
    { r with account := { r.account.setFromTable v .rest with restTaken := true } }.setConfidence .calibrated
  else { r with account := { r.account with restTaken := true, lastTable := some (soc, .restSkipped) } }

/-- R25: the conditions on the rest clock and the attempt. -/
def Account.restDue (a : Account) : Bool :=
  match a.restClock with
  | some t => decide (a.bank.restMinutes * 60000 ≤ t) && !a.restTaken
  | none => false

/-- Stage 5 (R24, R25). -/
def PairRun.rest (r : PairRun) (p : BankPair) : PairRun :=
  let r := { r with account := r.account.moveRest p }
  match r.account.restDue, p.bv.usable with
  | true, some v => r.attempt v
  | _, _ => r

/-- R26: a pair that qualifies. -/
def Account.qualifies (a : Account) (p : BankPair) : Bool :=
  match p.bv.usable, p.bi.usable with
  | some v, some bi => decide ((a.bank.vFull : Int) ≤ v) && decide (0 < bi) && decide (bi ≤ 2 * (a.bank.capacity : Int))
  | _, _ => false

/-- R26: the full clock. -/
def Account.moveFull (a : Account) (p : BankPair) : Account :=
  if a.qualifies p then
    match a.fullClock with
    | some t => { a with fullClock := some (t + p.passLength) }
    | none => { a with fullClock := some 0 }
  else { a with fullClock := none }

/-- R26: the detection. -/
def PairRun.detect (r : PairRun) : PairRun :=
  { r with account := { r.account with q := r.account.qFull, throughput := 0, fullClock := some 0 } }.setConfidence
    .calibrated

/-- Stage 6 (R26). -/
def PairRun.full (r : PairRun) (p : BankPair) : PairRun :=
  let r := { r with account := r.account.moveFull p }
  match r.account.fullClock with
  | some t => if 600000 ≤ t then r.detect else r
  | none => r

/-- Stage 7 (R28, R29). -/
def Account.settleSoc (a : Account) : Account :=
  let s := socOf a.q a.qFull
  let p := coldPenaltyOf a.bankTemp
  let m := a.confidence.margin
  match a.confidence with
  | .unknown => { a with s := 0, coldPenalty := p, margin := 0, sEff := 0 }
  | _ => { a with s := s, coldPenalty := p, margin := m, sEff := s - p - m }

/-- The threshold T(k) (section 2.13). -/
def ShedSetup.threshold (t : ShedSetup) : Nat → Nat
  | 1 => t.t1
  | 2 => t.t2
  | 3 => t.t3
  | _ => t.t4

/-- R30: the highest band whose threshold S_eff is below. -/
def bandOf (t : ShedSetup) (sEff : Nat) : Nat :=
  if sEff < t.t4 then 4 else if sEff < t.t3 then 3 else if sEff < t.t2 then 2 else if sEff < t.t1 then 1 else 0

/-- R30: the SoC level after a pair. -/
def socLevelAfter (t : ShedSetup) (level sEff : Nat) : Nat :=
  if level < bandOf t sEff then bandOf t sEff
  else if 1 ≤ level ∧ t.threshold level + t.hysteresis ≤ sEff then level - 1
  else level

/-- Stage 8 (R30). -/
def Account.moveSocLevel (a : Account) : Account :=
  match a.confidence with
  | .unknown => { a with socLevel := 0 }
  | _ => { a with socLevel := socLevelAfter a.shedSetup a.socLevel a.sEff }

/-- R31: the release count and the voltage level at a pair with no raise. -/
def Account.releaseVoltage (a : Account) (v : Int) : Account :=
  let run (threshold below : Nat) : Account :=
    if (threshold : Int) + 300 ≤ v then
      if 20 ≤ a.releaseCount + 1 then { a with voltageLevel := below, releaseCount := 0 }
      else { a with releaseCount := a.releaseCount + 1 }
    else { a with releaseCount := 0 }
  match a.voltageLevel with
  | 4 => run a.shedSetup.vCut 3
  | 3 => run a.shedSetup.vLow 0
  | _ => { a with releaseCount := 0 }

/-- Stage 9 (R31). -/
def Account.moveVoltageLevel (a : Account) (bv : Reading) : Account :=
  match bv.usable with
  | none => a
  | some v =>
    let a := { a with
      lowCount := if v < a.shedSetup.vLow then min 4 (a.lowCount + 1) else 0
      cutCount := if v < a.shedSetup.vCut then min 4 (a.cutCount + 1) else 0 }
    if a.cutCount = 4 ∧ a.voltageLevel < 4 then { a with voltageLevel := 4, releaseCount := 0 }
    else if a.lowCount = 4 ∧ a.voltageLevel = 0 then { a with voltageLevel := 3, releaseCount := 0 }
    else a.releaseVoltage v

/-- Stage 10 (R32): the shed level is the larger of the two levels. -/
def Account.setShed (a : Account) : Account := { a with shedLevel := max a.socLevel a.voltageLevel }

/-- R16: the ten stages, each on the results of the one before. -/
def Account.takePair (a : Account) (bank : BankSetup) (shed : ShedSetup) (p : BankPair) : PairRun :=
  let start := a.adopt bank shed
  let r := ((((start.1.estimate p start.2).integrate p).count.rest p).full p)
  { r with account :=
      { ((r.account.settleSoc.moveSocLevel).moveVoltageLevel p.bv).setShed with lastBv := p.bv, lastBi := p.bi } }

/-! ## What EACC publishes and posts (R32, R36) -/

/-- R32: BANK's detail from the account. -/
def Account.bankDetail (a : Account) (reasons : FlagSet) : BankDetail :=
  ⟨a.shedLevel, a.socLevel, a.voltageLevel, a.confidence, reasons⟩

/-- R32: BANK is posted where the reasons are not empty. -/
def Works.postBankFor (w : Works) (a : Account) (reasons : FlagSet) : Works :=
  if reasons = 0 then w else w.postBank (a.bankDetail reasons)

/-- R32, R36, R53: the shed level publication or the setup notice reaches GARB. -/
def Works.takeShed (w : Works) (level : Nat) : Works :=
  (w.afterTaking (w.arbiter.takeShed level w.link.live.shed w.vehicle.uptime)).settle

/-- Stage 10 of a pair at the other blocks: the publication (a wake source), the taking, the posting. -/
def Works.publishPair (w : Works) (before : Account) (r : PairRun) : Works :=
  let changed := before.shedLevel != r.account.shedLevel
  let w := if changed then w.wake .shed else w
  let w := if changed || r.shedAdopted then w.takeShed r.account.shedLevel else w
  w.postBankFor r.account (FlagSet.ofFlags [changed, r.confChanged])

/-! ## MARK-FULL and the two calibrations by themselves (R25 to R27) -/

/-- R27. -/
def Account.markFull (a : Account) : Account :=
  { a with
    q := a.qFull
    confidence := .calibrated
    throughput := 0
    fullClock := a.fullClock.map fun _ => 0 }.settleSoc

/-- The account outside a pair, as a run with nothing done yet. -/
def Account.run (a : Account) : PairRun := ⟨a, false, 0, false, false⟩

/-- R25: the rest calibration attempt, its rest clock taken as having reached the rest time (log entry 10). -/
def Account.restCalibration (a : Account) : PairRun :=
  match a.restClock, a.restTaken, a.lastBv.usable with
  | some _, false, some v =>
    let r := a.run.attempt v
    { r with account := r.account.settleSoc }
  | _, _, _ => a.run

/-- R26: the full detection, its full clock taken as having reached 10 minutes (log entry 10). -/
def Account.fullDetection (a : Account) : PairRun :=
  match a.fullClock with
  | some _ =>
    let r := a.run.detect
    { r with account := r.account.settleSoc }
  | none => a.run

end Sys2Proof.Machine
end

