-- ==== Sys2Proof/Machine/Scanner.lean ====
section
/-! DEFINITION. The Measurement Scanner (chapter 1): samples, Readings, pass starts, and what each consumer does with a
publication (R1). -/

namespace Sys2Proof.Machine

/-! ## Channels and samples (R1 to R3) -/

/-- R1: the measurement range of a channel, by its number. -/
def channelRange : Fin 9 → Int × Int
  | 0 => (0, 20000)
  | 1 => (-30000, 30000)
  | 2 => (-550, 1500)
  | 3 => (-550, 1500)
  | 4 => (-550, 1500)
  | 5 => (-550, 1750)
  | 6 => (0, 4)
  | 7 => (0, 2)
  | 8 => (0, 65535)

/-- R1: an input beyond an end of the measurement range gives the end value. -/
def converted (ch : Fin 9) (x : Int) : Int := clampInt (channelRange ch).1 (channelRange ch).2 x

/-- R2: the band of a probe group, from the bottom probe upward; none for a ladder fault. -/
def ladderBand : List Bool → Option Nat
  | [] => some 0
  | true :: rest => (ladderBand rest).map (· + 1)
  | false :: rest => if rest.any id then none else some 0

/-- R196: the wet probes as a bitmap, the bottom probe bit 0. -/
def wetMap : List Bool → Nat
  | [] => 0
  | b :: rest => (if b then 1 else 0) + 2 * wetMap rest

/-- R2: the sample of a probe group. -/
def probeSample (probes : List Bool) : RawSample :=
  match ladderBand probes with
  | some band => .sample band
  | none => .ladder (wetMap probes)

/-- R3: the value that WIND's window is compared with. -/
def windCompared (count passLength : Nat) : Int := ((count / (passLength / 500) : Nat) : Int)

/-! ## Readings (R4) -/

/-- A value within a plausible window, both ends included. -/
def ChannelRecord.plausible (r : ChannelRecord) (x : Int) : Bool := decide (r.minimum ≤ x) && decide (x ≤ r.maximum)

/-- R4: a Reading's move on a sample, with its plausibility judged. -/
def ChannelState.move (c : ChannelState) (x : Int) (plausible : Bool) (holdPasses : Nat) : ChannelState :=
  if plausible then ⟨.valid x, 0, some (.sample x)⟩
  else match c.reading with
    | .valid v => ⟨.held v, 1, some (.sample x)⟩
    | .held v =>
      if c.hold < holdPasses then ⟨.held v, c.hold + 1, some (.sample x)⟩
      else ⟨.invalid, 0, some (.sample x)⟩
    | .invalid => ⟨.invalid, 0, some (.sample x)⟩

/-- R2: a ladder fault takes the Reading to INVALID at once. -/
def ChannelState.ladderFault (wet : Nat) : ChannelState := ⟨.invalid, 0, some (.ladder wet)⟩

/-- A channel with no Reading, no hold and no raw sample (R11, R14). -/
def ChannelState.blank : ChannelState := ⟨.invalid, 0, none⟩

/-- The scanner with one channel changed. -/
def Scanner.setChannel (s : Scanner) (ch : Fin 9) (c : ChannelState) : Scanner :=
  { s with channels := s.channels.set ch c }

/-- R4, R2: a channel takes its sample; `compared` is what the window is compared with. -/
def Scanner.sample (s : Scanner) (ch : Fin 9) (raw : RawSample) (compared : Int) : Scanner :=
  match raw with
  | .sample x =>
    let r := s.adopted[ch]
    s.setChannel ch (s.channels[ch].move x (r.plausible compared) r.holdPasses)
  | .ladder wet => s.setChannel ch (.ladderFault wet)

/-- R1 to R3: the channel and the sample of an input other than WIND's. -/
def inputSample : ChannelInput → Option (Fin 9 × RawSample)
  | .tBank x => some (2, .sample (converted 2 x))
  | .tCabin x => some (3, .sample (converted 3 x))
  | .tWater x => some (4, .sample (converted 4 x))
  | .tDie x => some (5, .sample (converted 5 x))
  | .fresh a b c d => some (6, probeSample [a, b, c, d])
  | .grey a b => some (7, probeSample [a, b])
  | .wind => none

/-- What a raw sample offers to its window. -/
def RawSample.value : RawSample → Int
  | .sample x => x
  | .ladder _ => 0

/-- R3: WIND's sample, the count read at the pass start; a channel enabled at that pass start takes none. -/
def Scanner.sampleWind (s : Scanner) : Scanner :=
  match s.windSample with
  | some count =>
    { s.sample 8 (.sample count) (windCompared count s.passLength) with windLength := s.passLength }
  | none => s

/-- The channel of an input. -/
def inputChannel : ChannelInput → Fin 9
  | .tBank _ => 2
  | .tCabin _ => 3
  | .tWater _ => 4
  | .tDie _ => 5
  | .fresh .. => 6
  | .grey .. => 7
  | .wind => 8

/-- R4, R8: an enabled channel other than BV and BI is sampled. -/
def Scanner.take (s : Scanner) (input : ChannelInput) : Scanner :=
  match inputSample input with
  | some (ch, raw) => s.sample ch raw raw.value
  | none => s.sampleWind

/-- R3: a pulse of the anemometer. -/
def Scanner.windPulse (s : Scanner) : Scanner :=
  if s.adopted[(8 : Fin 9)].enabled then { s with windCount := min 65535 (s.windCount + 1) } else s

/-! ## Pass starts (R3, R5, R6, R10, R11) -/

/-- R5: the period chosen from the condition. -/
def passPeriod : Condition → Nat
  | .dormant => 8000
  | _ => 500

/-- R11: adopting a record that disables a channel. -/
def Scanner.disabledBy (s : Scanner) (setup : ChannelSetup) (ch : Fin 9) : Bool :=
  s.adopted[ch].enabled && !setup[ch].enabled

/-- R10, R11: the adoption of the live CHANNEL-SETUP, with the Readings of the disabled channels. -/
def Scanner.adopt (s : Scanner) (setup : ChannelSetup) : Scanner :=
  { s with
    adopted := setup
    channels := vmapIdx (fun i c =>
      if h : i < 9 then (if s.disabledBy setup ⟨i, h⟩ then .blank else c) else c) s.channels }

/-- R3: the count read at a pass start that adopts `setup`. -/
def Scanner.readWind (s : Scanner) (setup : ChannelSetup) : Option Nat :=
  if s.adopted[(8 : Fin 9)].enabled && setup[(8 : Fin 9)].enabled then some s.windCount else none

/-- R1: every pass has all nine channels to sample. -/
def allAwaited : FlagSet := 0x01FF#16

/-- The pass in hand has still to sample a channel: each is sampled once in a pass (R1, R8, R9), and a reset ends the pass
(R14). -/
def Scanner.awaits (s : Scanner) (ch : Fin 9) : Bool := s.awaited.getLsbD ch.val

/-- The pass in hand has sampled a channel. -/
def Scanner.sampled (s : Scanner) (ch : Fin 9) : Scanner := { s with awaited := s.awaited &&& ~~~(FlagSet.insert 0 ch.val) }

/-- R3, R5, R6, R10, R11: a pass start under a condition. -/
def Scanner.startPass (s : Scanner) (condition : Condition) (setup : ChannelSetup) : Scanner :=
  let wind := s.readWind setup
  { s.adopt setup with
    passCounter := (s.passCounter + 1) % 65536
    passLength := s.period
    period := passPeriod condition
    untilPass := passPeriod condition
    windCount := 0
    windSample := wind
    awaited := allAwaited }

/-! ## The consumers (R1, R8) -/

/-- R130: WCTL takes a T_WATER publication; an expiry that it brings is a wake source (R171). -/
def Works.takeWaterLine (w : Works) (r : Reading) : Works :=
  let w := { w with water := w.water.takeWater w.link.live.water r }
  if w.water.frostDue then ((w.wake .frost).frostExpire).settle else w

/-- R78, R79, R53: T_DIE at OSFS, at VCU as a wake source, and at GARB. -/
def Works.takeDie (w : Works) (r : Reading) : Works :=
  let x := w.thermal r
  if x.2 then
    let w := x.1.wake .thermal
    (w.afterTaking (w.arbiter.takeStage w.stages.stage w.vehicle.uptime)).settle
  else x.1

/-- R1, R8: a publication of a channel other than BV, BI and T_BANK reaches its consumers. The order of two consumers of one
publication, CCTL before WCTL for T_WATER, and for T_DIE OSFS, VCU, GARB, is log entry 20 (DEDUCED). -/
def Works.consume (w : Works) (ch : Fin 9) (r : Reading) (passLength : Nat) : Works :=
  match ch with
  | 3 => (w.takeCabin r).settle
  | 4 => ((w.takeWaterTemp r).settle).takeWaterLine r
  | 5 => w.takeDie r
  | 6 => (w.takeFresh r).settle
  | 7 => (w.takeGrey r).settle
  | 8 => (w.takeWind r passLength).settle
  | _ => w

/-- R8, R17: a publication reaches its consumers, EACC among them. -/
def State.publish (s : State) (ch : Fin 9) : State :=
  let r := s.scanner.channels[ch].reading
  { s with
    account := if ch = 2 then { s.account with bankTemp := r } else s.account
    works := s.works.consume ch r s.scanner.passLength }

/-- R11: the channels that a pass start has disabled are published once, as INVALID. -/
def State.publishDisabled (s : State) (before : Scanner) : List (Fin 9) → State
  | [] => s
  | ch :: rest =>
    (if before.disabledBy s.scanner.adopted ch then s.publish ch else s).publishDisabled before rest

/-- The channels other than BV and BI, which cannot be disabled (R7). -/
def optionalChannels : List (Fin 9) := [2, 3, 4, 5, 6, 7, 8]

/-- R5: the pass clock starts a pass, where the scheduled start has come. -/
def State.passStart (s : State) : State :=
  let before := s.scanner
  if before.untilPass = 0 then
    { s with scanner := before.startPass s.works.vehicle.condition s.works.link.live.channel }.publishDisabled before
      optionalChannels
  else s

/-- R8: a channel other than BV and BI is sampled and published, once in the pass in hand, where it is enabled. -/
def State.channelSample (s : State) (input : ChannelInput) : State :=
  let ch := inputChannel input
  if s.scanner.awaits ch && s.scanner.adopted[ch].enabled then
    { s with scanner := (s.scanner.take input).sampled ch }.publish ch
  else s

/-- R4: BV and BI are sampled together. -/
def Scanner.samplePair (s : Scanner) (bv bi : Int) : Scanner :=
  (((s.sample 0 (.sample (converted 0 bv)) (converted 0 bv)).sample 1 (.sample (converted 1 bi))
    (converted 1 bi)).sampled 0).sampled 1

/-- R9, R16: BV and BI as sampled are published as the bank pair, and EACC takes it. -/
def State.takenPair (s : State) (bv bi : Int) : State :=
  let scanner := s.scanner.samplePair bv bi
  let pair : BankPair :=
    ⟨scanner.channels[(0 : Fin 9)].reading, scanner.channels[(1 : Fin 9)].reading, scanner.passLength⟩
  let live := s.works.link.live
  let r := s.account.takePair live.bank live.shed pair
  { s with scanner := scanner, account := r.account, works := s.works.publishPair s.account r }

/-- R9: the bank pair is sampled and published once in the pass in hand. -/
def State.bankPair (s : State) (bv bi : Int) : State := if s.scanner.awaits 0 then s.takenPair bv bi else s

end Sys2Proof.Machine
end

