-- ==== Sys2Proof/Machine/SetupTables.lean ====
section
/-! DEFINITION. The nine setup tables on the link: their records in the layouts of R199, and the whole validation of a write
to each (R7, R33, R34, R36, R59, R63, R95, R119, R138, R162, R187, R188). -/

namespace Sys2Proof.Machine

/-! ## Records (section 10.4, R199) -/

/-- How many records a setup table has. -/
def setupCount : Nat → Nat
  | 0 => 17 | 1 => 13 | 2 => 12 | 3 => 9 | 4 => 6 | 5 => 3 | 6 => 7 | 7 => 9 | _ => 2

/-- The bytes of a record of a setup table. -/
def setupSize : Nat → Nat
  | 2 => 18 | 3 => 19 | 7 => 10 | _ => 2

/-! ## The tables of two-byte records, as lists of field values -/

def BankSetup.values (b : BankSetup) : List Nat :=
  [b.chemistry.code, b.capacity, b.efficiency, b.vFull, b.restMinutes, b.driftCycles] ++ b.points.toList

def BankSetup.ofValues (v : List Nat) : BankSetup where
  chemistry := (Chemistry.ofCode (v.getD 0 0)).getD .lead
  capacity := v.getD 1 0
  efficiency := v.getD 2 0
  vFull := v.getD 3 0
  restMinutes := v.getD 4 0
  driftCycles := v.getD 5 0
  points := #v[v.getD 6 0, v.getD 7 0, v.getD 8 0, v.getD 9 0, v.getD 10 0, v.getD 11 0, v.getD 12 0, v.getD 13 0,
    v.getD 14 0, v.getD 15 0, v.getD 16 0]

/-- Section 2.12: the ranges. -/
def bankRanges : List (Nat × Nat) :=
  [(0, 1), (20, 1000), (800, 1000), (12000, 16000), (30, 480), (1, 10)] ++ List.replicate 11 (0, 20000)

def ShedSetup.values (t : ShedSetup) : List Nat :=
  [t.t1, t.t2, t.t3, t.t4, t.hysteresis, t.vLow, t.vCut] ++ t.ceilings.toList ++ [t.barrierAge]

def ShedSetup.ofValues (v : List Nat) : ShedSetup where
  t1 := v.getD 0 0
  t2 := v.getD 1 0
  t3 := v.getD 2 0
  t4 := v.getD 3 0
  hysteresis := v.getD 4 0
  vLow := v.getD 5 0
  vCut := v.getD 6 0
  ceilings := #v[v.getD 7 0, v.getD 8 0, v.getD 9 0, v.getD 10 0, v.getD 11 0]
  barrierAge := v.getD 12 0

/-- Sections 2.13 and 3.12: the ranges. -/
def shedRanges : List (Nat × Nat) :=
  [(1, 999), (1, 999), (1, 999), (1, 999), (0, 100), (9000, 16000), (9000, 16000)]
    ++ List.replicate 5 (0, 60000) ++ [(10, 600)]

def ClimateSetup.values (t : ClimateSetup) : List Nat :=
  [t.startMode.code, t.startSetpoint, t.ecoOffset, t.hysteresis, t.fanFloor, t.gain]

def ClimateSetup.ofValues (v : List Nat) : ClimateSetup where
  startMode := (ClimateMode.ofCode (v.getD 0 0)).getD .off
  startSetpoint := v.getD 1 0
  ecoOffset := v.getD 2 0
  hysteresis := v.getD 3 0
  fanFloor := v.getD 4 0
  gain := v.getD 5 0

/-- Section 6.7: the ranges. -/
def climateRanges : List (Nat × Nat) := [(0, 3), (50, 300), (0, 100), (2, 20), (200, 500), (1, 20)]

def WaterSetup.values (t : WaterSetup) : List Nat := [t.frostThreshold, t.frostTime, t.runLimit]

def WaterSetup.ofValues (v : List Nat) : WaterSetup := ⟨v.getD 0 0, v.getD 1 0, v.getD 2 0⟩

/-- Section 7.7: the ranges. -/
def waterRanges : List (Nat × Nat) := [(10, 60), (30, 600), (30, 900)]

def MotionSetup.values (t : MotionSetup) : List Nat :=
  [t.awnTravel, t.stepTravel, t.awnStall, t.stepStall, onCode t.autoStep, t.windLimit, t.windScale]

def MotionSetup.ofValues (v : List Nat) : MotionSetup :=
  ⟨v.getD 0 0, v.getD 1 0, v.getD 2 0, v.getD 3 0, v.getD 4 0 == 0, v.getD 5 0, v.getD 6 0⟩

/-- Section 8.9: the ranges. -/
def motionRanges : List (Nat × Nat) :=
  [(50, 4000), (20, 1000), (1000, 20000), (1000, 20000), (0, 1), (20, 300), (1, 1000)]

def LinkSetup.values (t : LinkSetup) : List Nat := [t.silence, t.startMask.toNat]

def LinkSetup.ofValues (v : List Nat) : LinkSetup := ⟨v.getD 0 0, BitVec.ofNat 16 (v.getD 1 0)⟩

/-- R188: the silence time is 0, or 5 to 120. -/
def clampSilence (x : Nat) : Nat := if x = 0 then 0 else clamp 5 120 x

/-- The given values clamped to their ranges, from the first record on. -/
def clampGiven (ranges : List (Nat × Nat)) (index : Nat) (given : List Nat) : List Nat :=
  List.zipWith (fun r x => clamp r.1 r.2 x) (ranges.drop index) given

/-- The table's values with the given ones in their places. -/
def place (live : List Nat) (index : Nat) (given : List Nat) : List Nat :=
  live.take index ++ given ++ live.drop (index + given.length)

/-- The value that a write gives a record, if it gives it. -/
def givenAt (index : Nat) (given : List Nat) (record : Nat) : Option Nat :=
  if record < index then none else given[record - index]?

/-- The first record of a run that is not above the one before it; a refusal names it, given by the write or not (DESIGN
CHOICE, log entry 11). -/
def notAbove (v : List Nat) (first : Nat) : Nat → Option Nat
  | 0 => none
  | n + 1 => if v.getD (first + 1) 0 ≤ v.getD first 0 then some (first + 1) else notAbove v (first + 1) n

/-- The first record of a run that is not below the one before it; a refusal names it, given by the write or not (DESIGN
CHOICE, log entry 11). -/
def notBelow (v : List Nat) (first : Nat) : Nat → Option Nat
  | 0 => none
  | n + 1 => if v.getD first 0 ≤ v.getD (first + 1) 0 then some (first + 1) else notBelow v (first + 1) n

/-- The first record of a run that is above the one before it; a refusal names it, given by the write or not (DESIGN
CHOICE, log entry 11). -/
def rises (v : List Nat) (first : Nat) : Nat → Option Nat
  | 0 => none
  | n + 1 => if v.getD first 0 < v.getD (first + 1) 0 then some (first + 1) else rises v (first + 1) n

/-- A write judged against one table: refused ILLEGAL with the first bad record and field, refused BUSY with a reason, or
the table after the write and whether a magnitude was clamped. -/
inductive Judged (α : Type)
  | illegal (record field : Nat)
  | busy (reason : Nat)
  | good (table : α) (clamped : Bool)

/-- Refusals for a run of records, the first one winning. -/
def refuseAt {α : Type} (bad : Option Nat) (rest : Judged α) : Judged α :=
  match bad with
  | some record => .illegal record 0
  | none => rest

/-- R33, R34: the live values with the new chemistry's defaults put in. -/
def bankBase (live : BankSetup) (chemistry : Chemistry) : BankSetup :=
  if chemistry = live.chemistry then live
  else { live with
    chemistry := chemistry
    efficiency := defaultEfficiency chemistry
    vFull := defaultVFull chemistry
    points := defaultPoints chemistry }

/-- R33, R34: a write to BANK-SETUP. `resting` says that a rest period is running; `storing` names the table being
stored. -/
def judgeBank (live : BankSetup) (resting : Bool) (storing : Option Nat) (index : Nat) (given : List Nat) :
    Judged BankSetup :=
  match givenAt index given 0 with
  | some code =>
    match Chemistry.ofCode code with
    | none => .illegal 0 0
    | some chemistry => go chemistry
  | none => go live.chemistry
where
  go (chemistry : Chemistry) : Judged BankSetup :=
    let values := clampGiven bankRanges index given
    let v := place (bankBase live chemistry).values index values
    refuseAt (notAbove v 6 10)
      (if chemistry ≠ live.chemistry && !resting then .busy 1
      else if storing = some 0 || (chemistry ≠ live.chemistry && decide (storing = some 1)) then .busy 2
      else .good (BankSetup.ofValues v) (values != given))

/-- R36, R59: a write to SHED-SETUP. Which record the refusal names for thresholds that do not fall, a Vcut not below Vlow and
ceilings that rise is the model's choice (DESIGN CHOICE, log entry 11). -/
def judgeShed (live : ShedSetup) (storing : Option Nat) (index : Nat) (given : List Nat) : Judged ShedSetup :=
  let values := clampGiven shedRanges index given
  let v := place live.values index values
  refuseAt (notBelow v 0 3) (refuseAt (notBelow v 5 1) (refuseAt (rises v 7 4)
    (if storing = some 1 then .busy 0 else .good (ShedSetup.ofValues v) (values != given))))

/-- R119: a write to CLIMATE-SETUP. -/
def judgeClimate (live : ClimateSetup) (storing : Option Nat) (index : Nat) (given : List Nat) : Judged ClimateSetup :=
  let values := clampGiven climateRanges index given
  let v := place live.values index values
  if ((givenAt index given 0).map ClimateMode.ofCode) = some none then .illegal 0 0
  else if storing = some 4 then .busy 0
  else .good (ClimateSetup.ofValues v) (values != given)

/-- R138: a write to WATER-SETUP. -/
def judgeWater (live : WaterSetup) (storing : Option Nat) (index : Nat) (given : List Nat) : Judged WaterSetup :=
  let values := clampGiven waterRanges index given
  if storing = some 5 then .busy 0
  else .good (WaterSetup.ofValues (place live.values index values)) (values != given)

/-- R162: a travel or stall threshold given other than the adopted value for the axis of the move the stage holds. -/
def Motion.lockedFields (m : Motion) (index : Nat) (values : List Nat) : Bool :=
  match m.stage.move? with
  | none => false
  | some h =>
    let differs (record adopted : Nat) : Bool :=
      match givenAt index values record with
      | some x => x != adopted
      | none => false
    match h.entry.axis with
    | .awn => differs 0 m.adopted.awnTravel || differs 2 m.adopted.awnStall
    | .step => differs 1 m.adopted.stepTravel || differs 3 m.adopted.stepStall

/-- R162: a write to MOTION-SETUP. -/
def judgeMotion (live : MotionSetup) (motion : Motion) (storing : Option Nat) (index : Nat) (given : List Nat) :
    Judged MotionSetup :=
  let values := clampGiven motionRanges index given
  if (givenAt index given 4).any (fun code => decide (1 < code)) then .illegal 4 0
  else if storing = some 6 || motion.lockedFields index given then .busy 0
  else .good (MotionSetup.ofValues (place live.values index values)) (values != given)

/-- R188: a write to LINK-SETUP. -/
def judgeLink (live : LinkSetup) (storing : Option Nat) (index : Nat) (given : List Nat) : Judged LinkSetup :=
  let silence := (givenAt index given 0).map clampSilence
  let mask := givenAt index given 1
  if mask.any (fun m => !causesOnly (BitVec.ofNat 16 m)) then .illegal 1 0
  else if storing = some 8 then .busy 0
  else .good ⟨silence.getD live.silence, (mask.map (BitVec.ofNat 16)).getD live.startMask⟩
    (silence != givenAt index given 0)

/-! ## Tables of longer records -/

/-- One written record judged: its first bad field, or its value and whether a magnitude was clamped. -/
inductive RecordJudged (α : Type)
  | bad (field : Nat)
  | good (value : α) (clamped : Bool)

/-- The first field of a list of checks that fails. -/
def firstBad : List (Nat × Bool) → Option Nat
  | [] => none
  | (field, ok) :: rest => if ok then firstBad rest else some field

/-- The records of a write in order, each judged against the table as the ones before left it. -/
def judgeRecords {α β : Type} (judge : Nat → α → List Byte → RecordJudged β) (put : Nat → β → α → α) :
    Nat → List (List Byte) → α → Bool → Judged α
  | _, [], table, clamped => .good table clamped
  | i, r :: rest, table, clamped =>
    match judge i table r with
    | .bad field => .illegal i field
    | .good x c => judgeRecords judge put (i + 1) rest (put i x table) (clamped || c)

/-- A given value of an optional field, clamped; a field not given keeps the live value (R199). -/
def Given.orLive (g : Given) (low high : Nat) (live : Option Nat) : Option Nat :=
  match g with
  | .value x => some (clamp low high x)
  | _ => live

/-- A clamp moved a given value. -/
def Given.moved (g : Given) (low high : Nat) : Bool :=
  match g with
  | .value x => clamp low high x != x
  | _ => false

/-- An optional field is well given: no bad presence byte, and present only where the output has it. -/
def Given.allowed (g : Given) (has : Bool) (ok : Nat → Bool) : Bool :=
  match g with
  | .absent => true
  | .value x => has && ok x
  | .bad => false

/-- Section 4.2: the outputs with an open test. -/
def hasOpen (o : Nat) : Bool := decide (o ≤ 6) || o == 9

/-- R63, R199: a LOAD-TABLE record for an output, with the live record it falls back on. -/
def judgeLoadRecord (o : Nat) (live : LoadRecord) (r : List Byte) : RecordJudged LoadRecord :=
  let rated := fieldNat r 0 2
  let cls := fieldGiven r 2 1
  let floorDuty := fieldGiven r 4 2
  let trip := fieldNat r 7 2
  let dwell := fieldNat r 9 2
  let openT := fieldGiven r 11 2
  let overM := FaultMode.ofCode (fieldNat r 14 1)
  let short := FaultMode.ofCode (fieldNat r 15 1)
  let openM := fieldGiven r 16 1
  let shortOk := match short with
    | some .retryFast => true
    | some .retrySlow => true
    | some .latch => true
    | _ => false
  match firstBad [
      (1, cls.allowed (o != 10) (fun c => decide (c ≤ 3) && (o != 9 || c == 0))),
      (2, floorDuty.allowed (decide (o < 6)) (fun _ => true)),
      (5, openT.allowed (hasOpen o) (fun _ => true)),
      (6, overM.isSome),
      (7, shortOk),
      (8, openM.allowed (hasOpen o) (fun c => (FaultMode.ofCode c).isSome))] with
  | some field => .bad field
  | none =>
    .good
      { rated := clamp 0 20000 rated
        cls := cls.orLive 0 3 live.cls
        floorDuty := floorDuty.orLive 50 500 live.floorDuty
        trip := clamp 100 20000 trip
        dwell := clamp 10 2000 dwell
        openThreshold := openT.orLive 0 2000 live.openThreshold
        overcurrentMode := overM.getD live.overcurrentMode
        shortMode := short.getD live.shortMode
        openMode := match openM with
          | .value c => FaultMode.ofCode c
          | _ => live.openMode }
      (clamp 0 20000 rated != rated || floorDuty.moved 50 500 || clamp 100 20000 trip != trip
        || clamp 10 2000 dwell != dwell || openT.moved 0 2000)

/-- A vector with one entry replaced; an index beyond its end replaces nothing. -/
def putAt {α : Type} {n : Nat} (i : Nat) (x : α) (v : Vector α n) : Vector α n := if h : i < n then v.set i x else v

/-- An entry of a vector, with a value for an index beyond its end. -/
def getAt {α : Type} {n : Nat} (i : Nat) (v : Vector α n) (other : α) : α := if h : i < n then v[i] else other

/-- R63: a write to LOAD-TABLE. -/
def judgeLoad (live : LoadTable) (storing : Option Nat) (index : Nat) (records : List (List Byte)) : Judged LoadTable :=
  match judgeRecords (fun i t r => judgeLoadRecord i (getAt i t live[(0 : Fin 12)]) r) putAt index records live false with
  | .good t c => if storing = some 2 then .busy 0 else .good t c
  | x => x

/-- R95: a duty field of a scene. -/
def sceneDuty (g : Given) : Option Nat := g.orLive 0 1000 none

/-- R95, R199: a SCENES record judged, as the table after it. -/
def judgeSceneRecord (i : Nat) (table : SceneTable) (r : List Byte) : RecordJudged SceneTable :=
  if i < 8 then
    let g (k : Nat) : Given := fieldGiven r (3 * k) 2
    match firstBad ((List.range 6).map fun k => (k, (g k).allowed true (fun _ => true))) with
    | some field => .bad field
    | none =>
      let duties := #v[sceneDuty (g 0), sceneDuty (g 1), sceneDuty (g 2), sceneDuty (g 3), sceneDuty (g 4), sceneDuty (g 5)]
      .good { table with scenes := putAt i (Scene.mk duties (fieldNat r 18 1)) table.scenes }
        ((List.range 6).any fun k => (g k).moved 0 1000)
  else
    let duty := fieldNat r 0 2
    let time := fieldNat r 2 2
    if (r.drop 4).any (fun b => b != 0) then .bad 2
    else .good { table with courtesyDuty := clamp 0 1000 duty, courtesyTime := clamp 10 600 time }
      (clamp 0 1000 duty != duty || clamp 10 600 time != time)

/-- R95: a write to SCENES. -/
def judgeScenes (live : SceneTable) (storing : Option Nat) (index : Nat) (records : List (List Byte)) :
    Judged SceneTable :=
  match judgeRecords judgeSceneRecord (fun _ t _ => t) index records live false with
  | .good t c => if storing = some 3 then .busy 0 else .good t c
  | x => x

/-- R7, R199: a CHANNEL-SETUP record judged for a channel. -/
def judgeChannelRecord (i : Nat) (r : List Byte) : RecordJudged ChannelRecord :=
  let range := if h : i < 9 then channelRange ⟨i, h⟩ else (0, 0)
  let enable := fieldNat r 0 1
  let low := fieldInt r 1 4
  let high := fieldInt r 5 4
  let hold := fieldNat r 9 1
  let low' := clampInt range.1 range.2 low
  let high' := clampInt range.1 range.2 high
  if 1 < enable ∨ (enable = 1 ∧ i < 2) then .bad 0
  else if high' < low' then .bad 1
  else .good ⟨enable == 0, low', high', clamp 1 60 hold⟩ (low' != low || high' != high || clamp 1 60 hold != hold)

/-- R7, R15: a write to CHANNEL-SETUP. -/
def judgeChannel (live : ChannelSetup) (storing : Option Nat) (index : Nat) (records : List (List Byte)) :
    Judged ChannelSetup :=
  match judgeRecords (fun i _ r => judgeChannelRecord i r) putAt index records live false with
  | .good t c => if storing = some 7 then .busy 0 else .good t c
  | x => x

/-! ## A write taken or refused (R183, R187) -/

/-- The answer to a write. -/
inductive WriteAnswer
  | badLength
  | readOnly
  | illegal (record field : Nat)
  | busy (reason : Nat)
  | taken (clamped : Bool)
  deriving DecidableEq, Repr

/-- The live tables replaced. -/
def State.setLive (s : State) (t : Tables) : State :=
  { s with works := { s.works with link := { s.works.link with live := t } } }

/-- A judgement carried out: the live tables written, or nothing applied. -/
def State.applyJudged {α : Type} (s : State) (j : Judged α) (put : α → Tables) : State × WriteAnswer :=
  match j with
  | .illegal record field => (s, .illegal record field)
  | .busy reason => (s, .busy reason)
  | .good t clamped => (s.setLive (put t), .taken clamped)

/-- R162: MCTL adopts a write to MOTION-SETUP at once while the stage is IDLE, ASKING or HELD. -/
def State.adoptMotionNow (s : State) : State :=
  match s.works.motion.stage.move? with
  | some _ => s
  | none => { s with works := s.works.adoptMotion }

/-- R34: the live tables after a taken BANK-SETUP write: a chemistry change replaces Vlow and Vcut. -/
def Tables.putBank (t : Tables) (b : BankSetup) : Tables :=
  if b.chemistry = t.bank.chemistry then { t with bank := b }
  else { t with
    bank := b
    shed := { t.shed with vLow := defaultVLow b.chemistry, vCut := defaultVCut b.chemistry } }

/-- R187: the owning chapter's validation of a write whose table, length and end are good. -/
def State.judgeWrite (s : State) (table index : Nat) (records : List (List Byte)) : State × WriteAnswer :=
  let live := s.works.link.live
  let storing := s.settings.run.map fun r => r.table.val
  let values := records.map unsignedOf
  match table with
  | 0 => s.applyJudged (judgeBank live.bank s.account.restClock.isSome storing index values) live.putBank
  | 1 => s.applyJudged (judgeShed live.shed storing index values) fun t => { live with shed := t }
  | 2 => s.applyJudged (judgeLoad live.load storing index records) fun t => { live with load := t }
  | 3 => s.applyJudged (judgeScenes live.scenes storing index records) fun t => { live with scenes := t }
  | 4 => s.applyJudged (judgeClimate live.climate storing index values) fun t => { live with climate := t }
  | 5 => s.applyJudged (judgeWater live.water storing index values) fun t => { live with water := t }
  | 6 =>
    let r := s.applyJudged (judgeMotion live.motion s.works.motion storing index values) fun t => { live with motion := t }
    match r.2 with
    | .taken _ => (r.1.adoptMotionNow, r.2)
    | _ => r
  | 7 => s.applyJudged (judgeChannel live.channel storing index records) fun t => { live with channel := t }
  | _ => s.applyJudged (judgeLink live.link storing index values) fun t => { live with link := t }

/-- R198: the length of a write's records fits the named setup table. -/
def recordsFit (table : Nat) (bytes : List Byte) : Bool :=
  decide (setupSize table ≤ bytes.length) && bytes.length % setupSize table == 0

/-- R187: the write cursor after the last record of a taken write. -/
def State.setWriteCursor (s : State) (c : Cursor) : State :=
  { s with works := { s.works with link := { s.works.link with writeCursor := c } } }

/-- R183, R187: a write of records from an index. A write of no record is BAD-LENGTH for every table (R198); a length that
no record of a status table fits is not judged (log entry 11). -/
def State.write (s : State) (table index : Nat) (bytes : List Byte) : State × WriteAnswer :=
  if 18 < table then (s, .illegal 255 0)
  else if 8 < table then (s, if bytes.isEmpty then .badLength else .readOnly)
  else if !recordsFit table bytes then (s, .badLength)
  else
    let n := bytes.length / setupSize table
    if setupCount table < index + n then (s, .illegal (max index (setupCount table)) 0)
    else
      let r := s.judgeWrite table index (chunks (setupSize table) bytes n)
      match r.2 with
      | .taken _ => (r.1.setWriteCursor ⟨table, index + n⟩, r.2)
      | _ => r

/-! ## The records as they read back (R199) -/

/-- A LOAD-TABLE record's bytes. -/
def LoadRecord.bytes (r : LoadRecord) : List Byte :=
  u16 r.rated ++ optU8 r.cls ++ optU16 r.floorDuty ++ u16 r.trip ++ u16 r.dwell ++ optU16 r.openThreshold
    ++ u8 r.overcurrentMode.code ++ u8 r.shortMode.code ++ optU8 (r.openMode.map FaultMode.code)

/-- A scene's bytes. -/
def Scene.bytes (s : Scene) : List Byte := s.duties.toList.flatMap optU16 ++ u8 s.fadeTime

/-- A CHANNEL-SETUP record's bytes: ENABLED 0, DISABLED 1. -/
def ChannelRecord.bytes (r : ChannelRecord) : List Byte :=
  u8 (if r.enabled then 0 else 1) ++ s32 r.minimum ++ s32 r.maximum ++ u8 r.holdPasses

/-- The records of a live setup table. -/
def Tables.records (t : Tables) : Nat → List (List Byte)
  | 0 => t.bank.values.map u16
  | 1 => t.shed.values.map u16
  | 2 => t.load.toList.map LoadRecord.bytes
  | 3 => t.scenes.scenes.toList.map Scene.bytes
      ++ [u16 t.scenes.courtesyDuty ++ u16 t.scenes.courtesyTime ++ List.replicate 15 0]
  | 4 => t.climate.values.map u16
  | 5 => t.water.values.map u16
  | 6 => t.motion.values.map u16
  | 7 => t.channel.toList.map ChannelRecord.bytes
  | _ => t.link.values.map u16

end Sys2Proof.Machine
end

