-- ==== Sys2Proof/Machine/StatusTables.lean ====
section
/-! DEFINITION. The ten status tables and the fourteen detail records as bytes (section 11.6): each written field after
field in the order its owning rule lists its fields, each field in the encoding of R196. What the two chapters leave of a
layout to the reader is log entry 14. -/

namespace Sys2Proof.Machine

/-! ## READINGS (R12) -/

/-- The raw sample as a number: a ladder fault is its bitmap of wet probes (R196). -/
def RawSample.number : RawSample → Int
  | .sample x => x
  | .ladder wet => wet

def RawSample.isLadder : RawSample → Bool
  | .sample _ => false
  | .ladder _ => true

/-- A flag of 0 or 1 as a code. -/
def flagCode (b : Bool) : Nat := if b then 1 else 0

/-- ENABLED 0, DISABLED 1 (section 1.4). -/
def enableCode (enabled : Bool) : Nat := if enabled then 0 else 1

/-- R12: one record of READINGS; WIND's pass length is written as U16. That the ladder-fault mark of FRESH and GREY and WIND's
pass length are absent before the first sample, where there is no raw sample, is the model's reading, R12 naming the value and
the raw sample alone (both DEDUCED, log entry 14). -/
def Scanner.record (s : Scanner) (ch : Fin 9) : List Byte :=
  let c := s.channels[ch]
  u8 (enableCode s.adopted[ch].enabled) ++ u8 c.reading.validity ++ optS32 c.reading.value? ++ u8 c.hold
    ++ optS32 (c.raw.map RawSample.number)
    ++ optU8 (if ch = 6 ∨ ch = 7 then c.raw.map fun r => flagCode r.isLadder else none)
    ++ optU16 (if ch = 8 ∧ c.raw.isSome then some s.windLength else none)

/-- The nine channels in the order of R1. -/
def allChannels : List (Fin 9) := [0, 1, 2, 3, 4, 5, 6, 7, 8]

/-! ## BANK-STATUS (R37) -/

/-- R37: the one record of BANK-STATUS; the rest attempt and the saturated mark are flags, 1 for taken and for set (DEDUCED,
log entry 13); the capacity in Ah, for which R196 names no encoding, is written as U16 (DEDUCED, log entry 14). -/
def Account.record (a : Account) : List Byte :=
  u8 a.bank.chemistry.code ++ u16 a.bank.capacity ++ u48 a.qFull ++ u48 a.q ++ u8 a.confidence.code
    ++ u48 a.throughput ++ u48 (a.qFull * a.bank.driftCycles) ++ optU32 a.restClock ++ flag a.restTaken
    ++ optU32 a.fullClock ++ optU16 (a.lastTable.map (·.1)) ++ optU8 (a.lastTable.map (·.2.code))
    ++ s32 a.lastIncrement ++ flag a.saturated ++ u16 a.s ++ u16 a.coldPenalty ++ u16 a.margin ++ u16 a.sEff
    ++ u8 a.socLevel ++ u8 a.voltageLevel ++ u8 a.shedLevel ++ u8 a.lowCount ++ u8 a.cutCount ++ u8 a.releaseCount
    ++ readingBytes a.bankTemp ++ readingBytes a.lastBv ++ readingBytes a.lastBi

/-! ## GRANTS and WAITS (R43, R44, R60, section 11.6) -/

/-- The set of permitted classes (R40). -/
def Arbiter.permittedSet (a : Arbiter) : FlagSet := FlagSet.ofFlags ([0, 1, 2, 3].map a.permits)

/-- R42: the request sequence is sixteen bits of the arrival number. -/
def sequenceOf (arrival : Nat) : Nat := arrival % 65536

/-- Section 11.6: the sixteen bytes of the GRANTS header. -/
def Arbiter.grantsHeader (a : Arbiter) : List Byte :=
  u8 a.shedLevel ++ u8 a.stage ++ setBytes a.permittedSet ++ u16 a.ceiling ++ u16 a.load ++ u16 a.headroom
    ++ u16 a.barrierAge ++ u16 (sequenceOf a.arrivals) ++ u8 a.grants.length ++ u8 0

/-- The three proportional-only fields. -/
def proportionBytes (p : Option Proportion) : List Byte :=
  optU16 (p.map (·.rated)) ++ optU16 (p.map (·.wanted)) ++ optU16 (p.map (·.floor))

/-- The output also stands in WAITS as TOP-UP. -/
def Arbiter.toppingUp (a : Arbiter) (o : OutId) : Bool :=
  match a.waitOf o with
  | some e => e.kind == .topUp
  | none => false

/-- Section 11.6: the twenty-four bytes of a GRANTS record. -/
def Arbiter.grantBytes (a : Arbiter) (r : GrantRecord) : List Byte :=
  u8 r.out.val ++ u8 r.cls ++ u16 r.ma ++ optU16 r.duty ++ u16 r.requested ++ u16 r.floor ++ proportionBytes r.prop
    ++ u8 (ownerCode r.out) ++ u16 (sequenceOf r.arrival) ++ flag (a.toppingUp r.out)

/-- R44, R60: a WAITS record, with its time on the list in whole seconds at an uptime in ms. -/
def WaitEntry.bytes (now : Nat) (e : WaitEntry) : List Byte :=
  u8 e.out.val ++ optU8 (e.companion.map (·.out.val)) ++ optU8 (e.companion.map (·.cls))
    ++ optU16 (e.companion.map (·.ma)) ++ proportionBytes (e.companion.bind (·.prop)) ++ u8 e.cls ++ u16 e.requested
    ++ u16 e.floor ++ proportionBytes e.prop ++ u8 e.kind.code ++ u8 (ownerCode e.out) ++ u16 (sequenceOf e.arrival)
    ++ u32 ((now - e.entryTime) / 1000)

/-! ## OUTPUTS and FAULTS (R81, section 4.7) -/

def Drive.duty? : Drive → Option Nat
  | .duty d => some d
  | _ => none

/-- OPEN 0, CLOSE 1 (section 4.1). -/
def Drive.polarity? : Drive → Option Nat
  | .polarity opening => some (openCode opening)
  | _ => none

def Drive.axis? : Drive → Option Nat
  | .motor a _ => some (axisCode a)
  | _ => none

def Drive.direction? : Drive → Option Nat
  | .motor _ d => some (directionCode d)
  | _ => none

/-- TIMING 0, ASKED 1 (section 4.3). -/
def RetryPhase.code : RetryPhase → Nat
  | .timing _ => 0
  | .asked => 1

def Driven.phase? : Driven → Option RetryPhase
  | .cutWait p => some p
  | _ => none

/-- The time left in TIMING, in 0.1 s, rounded down (DESIGN CHOICE, log entry 32). -/
def RetryPhase.tenths? : RetryPhase → Option Nat
  | .timing left => some (left / 100)
  | .asked => none

/-- R81: the header of OUTPUTS. -/
def Stages.outputsHeader (s : Stages) : List Byte := u8 s.stage ++ readingBytes s.lastDie

/-- R81: a record of OUTPUTS; the demand is OFF 0 or ON 1, and the retry time left is written as U16 and
absent in ASKED, and the settings a drive does not have are absent (DEDUCED, log entry 14). -/
def Output.bytes (x : Output) : List Byte :=
  flag x.demand.isSome ++ optU16 (x.demand.bind Drive.duty?) ++ optU8 (x.demand.bind Drive.polarity?)
    ++ optU8 (x.demand.bind Drive.axis?) ++ optU8 (x.demand.bind Drive.direction?) ++ optU16 (x.grant.map (·.ma))
    ++ optU16 (x.grant.bind (·.duty)) ++ u8 x.driven.code ++ optU8 (x.driven.phase?.map RetryPhase.code)
    ++ optU16 (x.driven.phase?.bind RetryPhase.tenths?) ++ optU8 (x.heldRequest.map (·.cls))
    ++ optU16 (x.heldRequest.map (·.requested)) ++ u16 x.current

/-- Section 4.7: a record of FAULTS. -/
def FaultRecord.bytes (r : FaultRecord) : List Byte :=
  u8 r.state.code ++ u8 r.attempts ++ u8 r.occurrences ++ optU32 r.stamp

/-! ## AXES (R163, section 8.1) -/

def originBytes (o : Origin) : List Byte := u8 o.code ++ optU8 (o.reason?.map AutoReason.code)

/-- The held move, each field absent where the stage holds none. -/
def heldBytes (m : Option HeldMove) : List Byte :=
  optU8 (m.map fun h => axisCode h.entry.axis) ++ optU8 (m.map fun h => directionCode h.entry.direction)
    ++ optU8 (m.map fun h => h.entry.origin.code) ++ optU8 (m.bind fun h => h.entry.origin.reason?.map AutoReason.code)
    ++ optU32 (m.map (·.pauseLeft)) ++ optU16 (m.map (·.count))

/-- The fields of an entry of the queue (section 8.2). -/
def QueueEntry.fields (e : QueueEntry) : List Byte :=
  u8 (axisCode e.axis) ++ u8 (directionCode e.direction) ++ originBytes e.origin ++ u32 e.entryTime

/-- A slot of the queue: the entry's fields, and its age in 0.1 s at an uptime in ms. -/
def QueueEntry.bytes (now : Nat) (e : QueueEntry) : List Byte := e.fields ++ u32 ((now - e.entryTime) / 100)

/-- The entry that the standing request describes (R145), in ASKING. -/
def Motion.standingEntry (m : Motion) : Option QueueEntry :=
  match m.stage with
  | .asking a => m.entryOf a
  | _ => none

/-- An entry that may be absent, each field with its presence (section 8.2). -/
def standingBytes (e : Option QueueEntry) : List Byte :=
  optU8 (e.map fun e => axisCode e.axis) ++ optU8 (e.map fun e => directionCode e.direction)
    ++ optU8 (e.map fun e => e.origin.code) ++ optU8 (e.bind fun e => e.origin.reason?.map AutoReason.code)
    ++ optU32 (e.map (·.entryTime))

/-- The bytes of a slot of the queue. -/
def entrySlot : Nat := 13

/-- R163: the header of AXES. The adopted MOTION-SETUP values are written as its records are, each as U16, the auto-step code
with them; the standing entry and the hold time left have presence bytes (DEDUCED, log entry 14). -/
def Motion.header (m : Motion) (now : Nat) : List Byte :=
  u8 m.stage.code ++ heldBytes m.stage.move? ++ standingBytes m.standingEntry
    ++ optU8 (m.last.map fun l => axisCode l.1) ++ optU8 (m.last.map fun l => directionCode l.2)
    ++ slots entrySlot 2 (QueueEntry.bytes now) m.queue
    ++ optS16 (m.speed.map fun v => (v : Int)) ++ slots 1 6 flag m.window ++ flag m.windHold.isSome
    ++ optU32 m.windHold ++ flag m.depart ++ m.adopted.values.flatMap u16

/-- Section 8.1: a record of AXES; the extended switch is STEP's alone, so AWN's is absent (DEDUCED, log entry 14). -/
def Motion.record (m : Motion) (a : Axis) : List Byte :=
  let r := m.axis a
  u8 r.state.code ++ optU16 r.position ++ u8 (closedCode r.retractedSwitch)
    ++ optU8 (match a with | .awn => none | .step => some (closedCode r.extendedSwitch)) ++ u16 (m.adopted.travel a)
    ++ u16 (m.adopted.stall a)

/-! ## CLIMATE-STATUS (R120) -/

def Heater.timer? : Heater → Option Nat
  | .igniting t => some t
  | _ => none

def Heater.purge? : Heater → Option Purge
  | .purging p => some p
  | _ => none

def Heater.reason? : Heater → Option LockoutReason
  | .lockout r => some r
  | _ => none

/-- SEEN 0, NOT SEEN 1 (R105). -/
def flameCode (seen : Bool) : Nat := if seen then 0 else 1

/-- R120: the one record of CLIMATE-STATUS, at an uptime in seconds; the three demands are flags, 1 for on (DEDUCED, log
entry 13), and the purge time is written as U16 (DEDUCED, log entry 14). -/
def Climate.record (c : Climate) (seconds : Nat) : List Byte :=
  u8 c.mode.code ++ s16 c.setpoint ++ optS16 (c.effective.map fun x => (x : Int)) ++ readingBytes c.cabin
    ++ readingBytes c.water ++ flag c.cabinDemand ++ flag c.waterDemand ++ flag c.heatDemand ++ u8 c.heater.phase.code
    ++ u8 (flameCode c.flame) ++ optU32 c.heater.timer? ++ u8 c.failures
    ++ optU32 (c.firstLoss.map fun t => seconds - t) ++ optU8 (c.heater.purge?.map (·.reason.code))
    ++ optU16 (c.heater.purge?.map (·.seconds)) ++ optU32 (c.heater.purge?.map (·.clock))
    ++ optU8 (c.heater.purge?.map (·.after.code)) ++ optU8 (c.heater.reason?.map LockoutReason.code) ++ u16 c.fanWanted

/-! ## WATER-STATUS (R139) -/

/-- A tank's filter (section 7.1); an accepted band of UNKNOWN is written as an absent band (DEDUCED, log entry 14). -/
def Tank.bytes (t : Tank) : List Byte :=
  optU16 t.accepted ++ optU16 t.candidate ++ u8 t.run ++ u8 t.invalid ++ u8 t.slosh

def FrostTimer.elapsed? : FrostTimer → Option Nat
  | .running t => some t
  | _ => none

/-- R139: the one record of WATER-STATUS. -/
def Water.record (w : Water) : List Byte :=
  w.fresh.bytes ++ w.grey.bytes ++ flag w.greyFull ++ u8 w.below ++ u8 (closedCode w.psw) ++ flag w.psw
    ++ u8 w.pump.code ++ flag w.dryLatch ++ flag w.limitLatch ++ optU32 w.dryTimer ++ optU32 w.runTimer
    ++ setBytes w.holds ++ readingBytes w.waterCopy ++ u8 w.heaterCopy.code ++ u8 w.frost.code
    ++ optU32 w.frost.elapsed? ++ u8 w.drain.state.code ++ u8 (positionCode w.position)
    ++ optU32 (w.drain.pulse?.map (·.clock)) ++ optU32 (w.drain.pulse?.map (·.confirm))
    ++ s16 w.adopted.frostThreshold ++ u16 w.adopted.frostTime ++ u16 w.adopted.runLimit

/-! ## CONDITION (R175, R179) -/

/-- R175: the Start Record, which is also START's detail. -/
def StartRecord.bytes (r : StartRecord) : List Byte :=
  u8 r.kind.code ++ setBytes r.fromDefaults ++ optU8 (r.before.map Condition.code) ++ optU8 (r.interrupted.map (·.val))

/-- The record a store has reached: the number of records written so far, which in the write phase is the index of the record
in hand; absent in the erase phase (DEDUCED, log entry 14). -/
def StoreRun.reached? (r : StoreRun) : Option Nat :=
  match r.phase with
  | .erase => none
  | _ => some r.record

/-- OK 0, FAIL 1 (R177, R178). -/
def StoreOutcome.code (o : StoreOutcome) : Nat := if o.ok then 0 else 1

/-- The store state (R177): IDLE 0, STORING 1, with what belongs to STORING. -/
def Settings.bytes (s : Settings) : List Byte :=
  flag s.run.isSome ++ optU8 (s.run.map (·.table.val)) ++ optU8 (s.run.map (·.phase.code))
    ++ optU8 (s.run.bind StoreRun.reached?) ++ optU8 (s.last.map StoreOutcome.code)

/-- R179: the one record of CONDITION. -/
def Vehicle.record (v : Vehicle) (silenceTime : Nat) (settings : Settings) : List Byte :=
  u8 v.condition.code ++ flag v.justWoken ++ u8 (onCode v.ign) ++ u8 (onCode v.dplus) ++ u8 (openCode v.door)
    ++ optU32 (v.silence.map (· / 1000)) ++ u16 silenceTime ++ optU8 (v.lastWake.map (·.1.index))
    ++ optU32 (v.lastWake.map (·.2)) ++ u32 (v.uptime / 1000) ++ v.startRecord.bytes ++ settings.bytes

/-! ## Every table on the link (sections 10.4, 11.5 and 11.6) -/

/-- The header of a table, empty for a table with none. The pass period of READINGS is written as U16 (DEDUCED, log entry
14). -/
def State.tableHeader (s : State) : Nat → List Byte
  | 10 => s.works.arbiter.grantsHeader
  | 11 => u8 s.works.arbiter.waits.length
  | 12 => s.works.stages.outputsHeader
  | 14 => s.works.motion.header s.works.vehicle.uptime
  | 17 => u16 s.scanner.passCounter ++ u16 s.scanner.period
  | _ => []

/-- The records of a table as they stand. -/
def State.tableRecords (s : State) (table : Nat) : List (List Byte) :=
  match table with
  | 9 => [s.account.record]
  | 10 => s.works.arbiter.grants.map s.works.arbiter.grantBytes
  | 11 => s.works.arbiter.waits.map (WaitEntry.bytes s.works.vehicle.uptime)
  | 12 => s.works.stages.outs.toList.map Output.bytes
  | 13 => (s.works.stages.faults.toList ++ [s.works.stages.thermal]).map FaultRecord.bytes
  | 14 => [s.works.motion.record .awn, s.works.motion.record .step]
  | 15 => [s.works.climate.record s.works.seconds]
  | 16 => [s.works.water.record]
  | 17 => allChannels.map s.scanner.record
  | 18 => [s.works.vehicle.record s.works.link.live.link.silence s.settings]
  | setup => s.works.link.live.records setup

/-! ## Detail records (sections 10.6 and 11.6) -/

def BankDetail.bytes (d : BankDetail) : List Byte :=
  u8 d.shedLevel ++ u8 d.socLevel ++ u8 d.voltageLevel ++ u8 d.confidence.code ++ setBytes d.reasons

def GrantDetail.bytes (d : GrantDetail) : List Byte :=
  setBytes d.revoked ++ setBytes d.reduced ++ u8 d.shedLevel ++ u8 d.stage ++ u16 d.ceiling

def FaultDetail.bytes (d : FaultDetail) : List Byte :=
  setBytes d.outs ++ u8 d.out.val ++ u8 (causeIndex d.cause) ++ u8 d.state.code ++ u8 d.attempts ++ u16 d.current

def ThermalDetail.bytes (d : ThermalDetail) : List Byte := u8 d.stage ++ readingBytes d.die

/-- R161; the outcome's cause is absent where the outcome has none (DEDUCED, log entry 14). -/
def MotionDetail.bytes (d : MotionDetail) : List Byte :=
  setBytes d.axes ++ u8 (axisCode d.axis) ++ optU8 (d.direction.map directionCode) ++ optU8 (d.origin.map Origin.code)
    ++ optU8 ((d.origin.bind Origin.reason?).map AutoReason.code) ++ u8 d.outcome.code
    ++ optU8 (d.cause.map MoveCause.code) ++ u8 d.state.code ++ optU16 d.position

def DepartDetail.bytes (d : DepartDetail) : List Byte := flag d.asserted ++ u8 d.condition.code ++ setBytes d.axes

/-- R129; an accepted band of UNKNOWN is written as an absent band (DEDUCED, log entry 14). -/
def WaterDetail.bytes (d : WaterDetail) : List Byte :=
  setBytes d.reasons ++ optU16 d.fresh ++ optU16 d.grey ++ flag d.greyFull ++ u8 d.pump.code ++ setBytes d.holds

def DrainDetail.bytes (d : DrainDetail) : List Byte :=
  u8 d.state.code ++ u8 d.before.code ++ u8 d.reason.code ++ u8 (positionCode d.position) ++ readingBytes d.water

def HeaterDetail.bytes (d : HeaterDetail) : List Byte :=
  u8 d.reason.code ++ u8 d.before.code ++ u8 d.failures ++ u32 d.uptime

def VehicleDetail.bytes (d : VehicleDetail) : List Byte :=
  u8 d.condition.code ++ u8 d.before.code ++ u8 (onCode d.ign) ++ u8 (onCode d.dplus) ++ u32 d.uptime

def WakeDetail.bytes (d : WakeDetail) : List Byte :=
  setBytes d.reasons ++ u8 d.latest.index ++ u32 d.uptime ++ u32 d.dormantFor

def LinkDetail.bytes (d : LinkDetail) : List Byte :=
  setBytes d.reasons ++ u8 d.count ++ u8 d.latest.index ++ optU8 (d.addr.map (·.toNat)) ++ optU8 (d.kind.map (·.toNat))

def StoreOutcome.bytes (d : StoreOutcome) : List Byte :=
  u8 d.table.val ++ u8 d.code ++ optU8 (d.phase.map StorePhase.code) ++ optU8 d.record

/-- The bytes of a detail's layout. -/
def detailSize : Cause → Nat
  | .start => 7 | .bank => 6 | .grant => 8 | .fault => 8 | .thermal => 7 | .motion => 16 | .depart => 4
  | .water => 12 | .drain => 10 | .heater => 7 | .vehicle => 8 | .wake => 11 | .link => 8 | .store => 6

/-- The detail of a latched cause; none where the cause is clear. -/
def CauseSet.detail? (s : CauseSet) : Cause → Option (List Byte)
  | .start => s.start.map StartRecord.bytes
  | .bank => s.bank.map BankDetail.bytes
  | .grant => s.grant.map GrantDetail.bytes
  | .fault => s.fault.map FaultDetail.bytes
  | .thermal => s.thermal.map ThermalDetail.bytes
  | .motion => s.motion.map MotionDetail.bytes
  | .depart => s.depart.map DepartDetail.bytes
  | .water => s.water.map WaterDetail.bytes
  | .drain => s.drain.map DrainDetail.bytes
  | .heater => s.heater.map HeaterDetail.bytes
  | .vehicle => s.vehicle.map VehicleDetail.bytes
  | .wake => s.wake.map WakeDetail.bytes
  | .link => s.link.map LinkDetail.bytes
  | .store => s.store.map StoreOutcome.bytes

/-- R198: a cause that is not latched is written with flag 0 and its detail bytes at 0. -/
def CauseSet.causeBytes (s : CauseSet) (c : Cause) : List Byte :=
  u8 c.index ++ flag (s.isLatched c) ++ (s.detail? c).getD (List.replicate (detailSize c) 0)

end Sys2Proof.Machine
end

