-- ==== Sys2Proof/Machine/Store.lean ====
section
/-! DEFINITION. The Settings Store (section 9.7): taking a store, its phases, its end, and the load at a reset (R176 to
R178). -/

namespace Sys2Proof.Machine

/-! ## The stored copies -/

/-- The check of a stored copy is made bad: its records are being erased or written again. -/
def StoredCopy.spoil {α : Type} (c : StoredCopy α) : StoredCopy α := { c with good := false, written := 0 }

/-- A stored copy in the middle of a store: some records of the copy taken are written, the check is bad. -/
def StoredCopy.progress {α : Type} (c : StoredCopy α) (image : α) (written : Nat) : StoredCopy α :=
  { c with image := image, written := written }

/-- A stored copy whose verify has agreed: its check is written. -/
def StoredCopy.seal {α : Type} (_ : StoredCopy α) (image : α) (written : Nat) : StoredCopy α := ⟨image, written, true⟩

/-- An act on the stored copy of one table, whatever its records are; `copy` gives the table's records as taken. -/
def StoredTables.act (t : StoredTables) (copy : Tables) (f : {α : Type} → StoredCopy α → α → StoredCopy α) :
    Nat → StoredTables
  | 0 => { t with bank := f t.bank copy.bank }
  | 1 => { t with shed := f t.shed copy.shed }
  | 2 => { t with load := f t.load copy.load }
  | 3 => { t with scenes := f t.scenes copy.scenes }
  | 4 => { t with climate := f t.climate copy.climate }
  | 5 => { t with water := f t.water copy.water }
  | 6 => { t with motion := f t.motion copy.motion }
  | 7 => { t with channel := f t.channel copy.channel }
  | _ => { t with link := f t.link copy.link }

/-! ## A store and its phases (R177, R178) -/

/-- The answers to STORE-TABLE (R177). -/
inductive StoreAnswer | ok | illegal | busy
  deriving DecidableEq, Repr

/-- R177: the store of a table begins: its check is bad from now on, and the live table is copied. -/
def Settings.begin (s : Settings) (table : SetupId) (live : Tables) : Settings :=
  { s with
    stored := s.stored.act live (fun c _ => c.spoil) table.val
    run := some ⟨table, .erase, 0, 0, live⟩ }

/-- R177: STORE-TABLE. -/
def Settings.take (s : Settings) (code : Nat) (live : Tables) : Settings × StoreAnswer :=
  if h : code < 9 then
    match s.run with
    | some _ => (s, .busy)
    | none => (s.begin ⟨code, h⟩ live, .ok)
  else (s, .illegal)

/-- A store ends with an outcome: the state returns to IDLE and STORE is posted (R177, R178). -/
def State.endStore (s : State) (stored : StoredTables) (o : StoreOutcome) : State :=
  { s with
    settings := ⟨stored, none, some o⟩
    works := s.works.postStore o }

/-- R178: a store fails in a phase at a record; no check is written. -/
def State.failStore (s : State) (r : StoreRun) (record : Option Nat) : State :=
  s.endStore s.settings.stored ⟨r.table, false, some r.phase, record⟩

/-- A store goes on with a later phase or record. -/
def State.storing (s : State) (stored : StoredTables) (r : StoreRun) : State :=
  { s with settings := { s.settings with stored := stored, run := some r } }

/-- R177, phase 1: the erase is over; `blank` says whether it has left the copy blank. -/
def State.storeErased (s : State) (blank : Bool) : State :=
  match s.settings.run with
  | some r =>
    match r.phase with
    | .erase =>
      if blank then s.storing s.settings.stored { r with phase := .write, record := 0, clock := 0 }
      else s.failStore r none
    | _ => s
  | none => s

/-- R177, phase 2: a record write is over; `complete` says whether it has completed. -/
def State.storeWritten (s : State) (complete : Bool) : State :=
  match s.settings.run with
  | some r =>
    match r.phase with
    | .write =>
      if complete then
        let written := r.record + 1
        s.storing (s.settings.stored.act r.copy (fun c image => c.progress image written) r.table.val)
          { r with
            record := written
            clock := 0
            phase := if setupCount r.table.val ≤ written then .verify else .write }
      else s.failStore r (some r.record)
    | _ => s
  | none => s

/-- R177, phases 3 and 4: the verify is over; it names the first record that differs, if any, and where none does the
check is written. -/
def State.storeVerified (s : State) (differs : Option Nat) : State :=
  match s.settings.run with
  | some r =>
    match r.phase with
    | .verify =>
      match differs with
      | some record => s.failStore r (some record)
      | none =>
        s.endStore (s.settings.stored.act r.copy (fun c image => c.seal image r.record) r.table.val)
          ⟨r.table, true, none, none⟩
    | _ => s
  | none => s

/-! ## The load at a reset (R176) -/

/-- R176: a good check gives the stored records, a bad one the table's defaults. -/
def StoredCopy.load {α : Type} (c : StoredCopy α) (default : α) : α := if c.good then c.image else default

/-- R176: the nine live tables; SHED-SETUP from defaults follows the chemistry of the BANK-SETUP loaded. -/
def StoredTables.loaded (t : StoredTables) : Tables :=
  let bank := t.bank.load defaultBank
  { bank := bank
    shed := t.shed.load (defaultShed bank.chemistry)
    load := t.load.load defaultLoad
    scenes := t.scenes.load defaultScenes
    climate := t.climate.load defaultClimate
    water := t.water.load defaultWater
    motion := t.motion.load defaultMotion
    channel := t.channel.load defaultChannel
    link := t.link.load defaultLink }

/-- R175, R176: the set of setup tables whose stored check was bad at the load. -/
def StoredTables.bad (t : StoredTables) : FlagSet :=
  FlagSet.ofFlags [!t.bank.good, !t.shed.good, !t.load.good, !t.scenes.good, !t.climate.good, !t.water.good,
    !t.motion.good, !t.channel.good, !t.link.good]

end Sys2Proof.Machine
end

