-- ==== Sys2Proof/Machine/Requests.lean ====
section
/-! DEFINITION. The host's requests as the blocks that own them take them, and what each answers (section 10.3 and the
request's own chapter): the state after, and the verdict that the reply carries. -/

namespace Sys2Proof.Machine

/-! ## Verdicts (R183, R197) -/

/-- What a request is answered with. -/
inductive Verdict
  | ok (payload : List Byte)
  | clamped (payload : List Byte)
  | waiting (payload : List Byte)
  | unknownKind
  | badLength
  | illegal (record field : Nat)
  | busy (reason : Nat)
  | interlock (reason : Nat)
  | stillPresent
  | readOnly
  | owned
  deriving DecidableEq, Repr

/-- R197: the STATUS byte. -/
def Verdict.status : Verdict → Byte
  | .ok _ => 0x00
  | .clamped _ => 0x01
  | .waiting _ => 0x02
  | .unknownKind => 0x81
  | .badLength => 0x82
  | .illegal .. => 0x83
  | .busy _ => 0x84
  | .interlock _ => 0x85
  | .stillPresent => 0x86
  | .readOnly => 0x87
  | .owned => 0x88

/-- R197: the reply's payload, or the refusal detail. -/
def Verdict.payload : Verdict → List Byte
  | .ok p => p
  | .clamped p => p
  | .waiting p => p
  | .illegal record field => u8 record ++ u8 field
  | .busy reason => u8 reason
  | .interlock reason => u8 reason
  | _ => []

/-- R197: ILLEGAL for a request without records, at a field of its payload. -/
def Verdict.badField (field : Nat) : Verdict := .illegal 255 field

/-- The works changed, the rest as it was. -/
def State.modWorks (s : State) (f : Works → Works) : State := { s with works := f s.works }

/-- The link changed, the rest as it was. -/
def State.modLink (s : State) (f : Link → Link) : State :=
  { s with works := { s.works with link := f s.works.link } }

/-! ## IDENT (R185) -/

/-- R185: the straps as the pins read now are compared with the address taken at reset completion. -/
def State.takeIdent (s : State) : State × Verdict :=
  (s, .ok (u16 Config.identity ++ u8 Config.revision ++ u8 s.works.link.unit.toNat
    ++ flag (s.inputs.straps != s.works.link.unit)))

/-! ## Tables and cursors (R186, R187) -/

/-- R195: the records from the front of a list that fit into a room. -/
def fitting : Nat → List (List Byte) → List (List Byte)
  | _, [] => []
  | room, r :: rest => if r.length ≤ room then r :: fitting (room - r.length) rest else []

/-- R195: the most bytes of a reply payload. -/
def maxReply : Nat := 240

/-- The leading bytes of a READ-TABLE reply (R198). -/
def readLead : Nat := 4

/-- R186: a read of a table from an index, up to a count where one is given; the read cursor moves behind it. -/
def State.read (s : State) (table index : Nat) (count : Option Nat) : State × Verdict :=
  let header := s.tableHeader table
  let all := s.tableRecords table
  let rest := all.drop index
  let asked := match count with
    | some n => rest.take n
    | none => rest
  let given := fitting (maxReply - readLead - header.length) asked
  let next := index + given.length
  (s.modLink fun l => { l with readCursor := ⟨table, next⟩ },
    .ok (u8 table ++ u8 index ++ u8 given.length ++ flag (decide (all.length ≤ next)) ++ header ++ given.flatten))

/-- R186: READ-TABLE. -/
def State.takeReadTable (s : State) (table index count : Byte) : State × Verdict :=
  if 18 < table.toNat then (s, .badField 0) else s.read table.toNat index.toNat (some count.toNat)

/-- R186: READ-NEXT. -/
def State.takeReadNext (s : State) : State × Verdict :=
  s.read s.works.link.readCursor.table s.works.link.readCursor.index none

/-- R187, R198: the reply to a write, with the write cursor as the write left it. -/
def State.writeVerdict (r : State × WriteAnswer) : State × Verdict :=
  let cursor := r.1.works.link.writeCursor
  let next := u8 cursor.table ++ u8 cursor.index
  (r.1, match r.2 with
    | .badLength => .badLength
    | .readOnly => .readOnly
    | .illegal record field => .illegal record field
    | .busy reason => .busy reason
    | .taken false => .ok next
    | .taken true => .clamped next)

/-- R187: WRITE-TABLE. -/
def State.takeWriteTable (s : State) (table index : Byte) (records : List Byte) : State × Verdict :=
  State.writeVerdict (s.write table.toNat index.toNat records)

/-- R187: WRITE-NEXT. -/
def State.takeWriteNext (s : State) (records : List Byte) : State × Verdict :=
  State.writeVerdict (s.write s.works.link.writeCursor.table s.works.link.writeCursor.index records)

/-- R177: STORE-TABLE. -/
def State.takeStore (s : State) (table : Byte) : State × Verdict :=
  let r := s.settings.take table.toNat s.works.link.live
  ({ s with settings := r.1 }, match r.2 with
    | .ok => .ok []
    | .illegal => .badField 0
    | .busy => .busy 0)

/-! ## The Cause Set (R191, R192) -/

/-- R191: READ-CAUSES. -/
def State.takeReadCauses (s : State) (cause : Option Byte) : State × Verdict :=
  let l := s.works.link
  match cause with
  | none => (s, .ok (setBytes l.causes.latchedSet ++ setBytes l.mask ++ flag l.busy))
  | some code =>
    match Cause.ofIndex? code.toNat with
    | some c => (s, .ok (l.causes.causeBytes c))
    | none => (s, .badField 0)

/-- R191: CLEAR-CAUSES. -/
def State.takeClearCauses (s : State) (named : FlagSet) : State × Verdict :=
  if causesOnly named then (s.modLink fun l => { l with causes := l.causes.clear named }, .ok [])
  else (s, .badField 0)

/-- R192: RELEASE-ATTN clears busy; its test and its reply come 100 µs later. -/
def State.releaseAttn (s : State) : State := s.modLink fun l => { l with busy := false, releasing := true }

/-- R192: SET-MASK. -/
def State.takeSetMask (s : State) (mask : FlagSet) : State × Verdict :=
  if causesOnly mask then (s.modLink fun l => { l with mask := mask }.retest, .ok []) else (s, .badField 0)

/-! ## AUX (R189) -/

def Works.setAux (w : Works) (on : Bool) : Works := { w with link := { w.link with auxWanted := on } }

/-- R189, OFF to ON: the wanted state, the demand, and a request from the adopted record. Answers whether the reply is
OK. -/
def Works.auxOn (w : Works) : Works × Bool :=
  let w := ((w.setAux true).setDemand AUX (some .on)).adopt AUX
  let load := (w.out AUX).load
  let r := w.ask ⟨AUX, load.cls.getD 0, load.rated, load.rated, none, none⟩
  (r.1.settle, r.2 == .granted)

/-- R189, ON to OFF. -/
def Works.auxOff (w : Works) : Works := (((w.setAux false).setDemand AUX none).release AUX).settle

/-- R189: SWITCH of AUX. -/
def State.switchAux (s : State) (on : Bool) : State × Verdict :=
  match s.works.link.auxWanted, on with
  | false, true =>
    let r := s.works.auxOn
    ({ s with works := r.1 }, if r.2 then .ok [] else .waiting [])
  | true, true => (s, if (s.works.out AUX).grant.isSome then .ok [] else .waiting [])
  | true, false => (s.modWorks Works.auxOff, .ok [])
  | false, false => (s, .ok [])

/-- R183, R189: SWITCH; ON is 0, OFF is 1. -/
def State.takeSwitch (s : State) (output state : Byte) : State × Verdict :=
  if output.toNat < 11 then (s, .owned)
  else if 11 < output.toNat then (s, .badField 0)
  else if 1 < state.toNat then (s, .badField 1)
  else s.switchAux (state == 0)

/-! ## Lights (R86, R94) -/

/-- R86, R94: an answer that makes the reply WAITING. -/
def Answer.waits : Option Answer → Bool
  | some .granted => false
  | none => false
  | _ => true

/-- R86: the duty of the covering grant as it stands; a lowering still due comes at the next boundary (R84). -/
def Light.coveringDuty (l : Light) : Nat := (l.cover.map (·.duty)).getD 0

/-- R86: SET-LIGHT of a channel that exists. -/
def State.lightSet (s : State) (ch : LightId) (duty fadeTime : Nat) : State × Verdict :=
  let r := s.works.setLight ch (clamp 0 1000 duty) fadeTime
  let w := r.1.settle
  let payload := u8 ch.val ++ u16 (w.light ch).aim ++ u16 (w.light ch).coveringDuty
  ({ s with works := w },
    if Answer.waits r.2 then .waiting payload else if 1000 < duty then .clamped payload else .ok payload)

/-- R86: SET-LIGHT. -/
def State.takeSetLight (s : State) (channel : Byte) (duty : BitVec 16) (fadeTime : Byte) : State × Verdict :=
  if h : channel.toNat < 6 then s.lightSet ⟨channel.toNat, h⟩ duty.toNat fadeTime.toNat else (s, .badField 0)

/-- R94: the channels of a scene in order, each answered before the next; answers whether any of them waits. -/
def Works.recallOn (w : Works) (scene : Scene) : List LightId → Works × Bool
  | [] => (w, false)
  | ch :: rest =>
    match scene.duties[ch] with
    | some duty =>
      let r := w.setLight ch duty scene.fadeTime
      let x := r.1.settle.recallOn scene rest
      (x.1, Answer.waits r.2 || x.2)
    | none => w.recallOn scene rest

/-- R94: RECALL-SCENE. -/
def State.takeRecallScene (s : State) (scene : Byte) : State × Verdict :=
  if h : scene.toNat < 8 then
    let r := s.works.recallOn (s.works.link.live.scenes.scenes[scene.toNat]) allLights
    ({ s with works := r.1 }, if r.2 then .waiting [] else .ok [])
  else (s, .badField 0)

/-! ## Axes (R154, R155) -/

/-- R197: the reason of a MOVE's INTERLOCK. -/
def barReason : MoveCause → Nat
  | .unknown => 2
  | .condition => 3
  | _ => 4

/-- R154, row 6: the entry still stands in the queue when the reply is built. -/
def Works.moveVerdict (w : Works) (a : Axis) : MoveAnswer → Verdict
  | .ok => .ok []
  | .queued => if (w.motion.entryOf a).isSome then .waiting [] else .ok []
  | .autoRetract => .interlock 1
  | .barred cause => .interlock (barReason cause)

/-- R154: MOVE. -/
def State.takeMove (s : State) (axis direction : Byte) : State × Verdict :=
  match axisOf axis.toNat, directionOf direction.toNat with
  | none, _ => (s, .badField 0)
  | some _, none => (s, .badField 1)
  | some a, some d =>
    let r := s.works.moveRequest a d
    let w := r.1.settle
    ({ s with works := w }, w.moveVerdict a r.2)

/-- R155: STOP-MOVE; its INTERLOCK has no reason named. -/
def State.takeStopMove (s : State) (axis : Byte) : State × Verdict :=
  match axisOf axis.toNat with
  | none => (s, .badField 0)
  | some a =>
    let r := s.works.stopRequest a
    ({ s with works := r.1.settle }, match r.2 with
      | .autoRetract => .interlock 0
      | _ => .ok [])

/-! ## Heating (R117, R118) -/

/-- R117: the reply's payload. -/
def Climate.reply (c : Climate) : List Byte :=
  u8 c.mode.code ++ s16 c.setpoint ++ optS16 (c.effective.map fun x => (x : Int)) ++ u8 c.heater.phase.code

/-- R117: a given setpoint, 0.1 °C, clamped to 50 to 300. -/
def clampSetpoint (p : BitVec 16) : Nat := (clampInt 50 300 p.toInt).toNat

/-- R117: a given setpoint lies outside 50 to 300. -/
def setpointMoved : Option (BitVec 16) → Bool
  | some p => clampInt 50 300 p.toInt != p.toInt
  | none => false

/-- R117: SET-CLIMATE. -/
def State.takeSetClimate (s : State) (mode : Byte) (setpoint : Option (BitVec 16)) : State × Verdict :=
  match ClimateMode.ofCode mode.toNat with
  | none => (s, .badField 0)
  | some m =>
    let w := (s.works.setClimate m (setpoint.map clampSetpoint)).settle
    ({ s with works := w }, if setpointMoved setpoint then .clamped w.climate.reply else .ok w.climate.reply)

/-- R118: RESET-HEATER. -/
def State.takeResetHeater (s : State) : State × Verdict :=
  let r := s.works.resetHeater
  ({ s with works := r.1.settle }, if r.2 then .stillPresent else .ok [])

/-! ## Drain (R135, R136) -/

/-- R135, R198: the reply gives the drain state after the request. -/
def Works.drainReply (w : Works) : List Byte := u8 w.water.drain.state.code

/-- R135: OPEN-DRAIN. -/
def State.takeOpenDrain (s : State) : State × Verdict :=
  let r := s.works.openDrain
  let w := r.1.settle
  ({ s with works := w }, match r.2 with
    | .busy => .busy 0
    | .latched => .interlock 0
    | _ => .ok w.drainReply)

/-- R136, R197: CLOSE-DRAIN. -/
def State.takeCloseDrain (s : State) : State × Verdict :=
  let r := s.works.closeDrain
  let w := r.1.settle
  ({ s with works := w }, match r.2 with
    | .wrongState => .interlock 1
    | .cold => .interlock 2
    | .latched => .interlock 3
    | _ => .ok w.drainReply)

/-! ## Faults (R77) -/

/-- R77: CLEAR-FAULT of an output and a cause that exist. -/
def State.faultClear (s : State) (o : OutId) (c : FaultCause) : State × Verdict :=
  let r := s.works.clearFault o c s.inputs.loads[o]
  ({ s with works := r.1.settle }, if r.2 then .stillPresent else .ok [])

/-- R77: CLEAR-FAULT. -/
def State.takeClearFault (s : State) (output cause : Byte) : State × Verdict :=
  if h : output.toNat < 12 then
    match faultCauseOf cause.toNat with
    | none => (s, .badField 1)
    | some .openLoad => if hasOpen output.toNat then s.faultClear ⟨output.toNat, h⟩ .openLoad else (s, .badField 1)
    | some c => s.faultClear ⟨output.toNat, h⟩ c
  else (s, .badField 0)

/-! ## The account, the condition, the reset (R27, R170, R174) -/

/-- R27: MARK-FULL. -/
def State.takeMarkFull (s : State) : State × Verdict :=
  let a := s.account.markFull
  ({ s with
    account := a
    works := s.works.postBankFor a (FlagSet.ofFlags [false, s.account.confidence != a.confidence]) }, .ok [])

/-- R170: SLEEP; DORMANT is entered once the reply is built. -/
def State.takeSleep (s : State) : State × Verdict :=
  (s, match s.works.judgeSleep with
    | .ok => .ok []
    | .busy item => .busy item
    | .interlock => .interlock 0)

/-- R174: RESTART; the reset is made once the reply has gone. -/
def State.takeRestart (s : State) : State × Verdict :=
  match s.settings.run with
  | some _ => (s, .busy 0)
  | none => ({ s with works := { s.works with vehicle := { s.works.vehicle with restarting := true } } }, .ok [])

/-! ## The reply (R183, R184) -/

/-- R184: the reply is built: it carries SUMMARY, and building it clears the just-woken mark. -/
def State.reply (s : State) (kind : Nat) (v : Verdict) : State :=
  let r : Reply := ⟨BitVec.ofNat 8 kind, v.status, summaryByte s.works s.account.shedLevel, v.payload⟩
  { s with works := { s.works with
      vehicle := { s.works.vehicle with justWoken := false }
      link := { s.works.link with sending := some r } } }

/-- R182, R183: a request in a good frame for this unit: the frame is heard, the request taken, the reply built. A frame
that comes between the taking of RESTART and its reset is heard and not answered (R174). -/
def State.serve (s : State) (kind : Nat) (take : State → State × Verdict) : State :=
  let s := s.modWorks Works.frameHeard
  if s.works.vehicle.restarting then s
  else
    let r := take s
    r.1.reply kind r.2

/-- R192: RELEASE-ATTN in a good frame for this unit; its reply comes with the test. -/
def State.serveRelease (s : State) : State :=
  let s := s.modWorks Works.frameHeard
  if s.works.vehicle.restarting then s else s.releaseAttn

/-- R170: what follows the reply to SLEEP. -/
def State.sleepAfter (s : State) (v : Verdict) : State :=
  match v with
  | .ok _ => s.modWorks Works.enterDormant
  | _ => s

/-- R170: SLEEP in a good frame for this unit. -/
def State.serveSleep (s : State) : State :=
  let s := s.modWorks Works.frameHeard
  if s.works.vehicle.restarting then s
  else
    let r := s.takeSleep
    (r.1.reply 22 r.2).sleepAfter r.2

/-- R192: the test of the Cause Set 100 µs after RELEASE-ATTN, and the reply. -/
def State.retestAttn (s : State) : State :=
  if s.works.link.releasing then
    (s.modLink fun l => { l with releasing := false }.retest).reply 9 (.ok [])
  else s

end Sys2Proof.Machine
end

