-- ==== Sys2Proof/Machine/Frames.lean ====
section
/-! DEFINITION. The frame receiver and the taking of completed frames (R181, R182, R198), and a reply as it goes out
(R195). -/

namespace Sys2Proof.Machine

/-! ## A request frame's request -/

/-- The request of a frame for this unit, handed to the block that owns it. -/
def State.request (s : State) : HostRequest → State
  | .ident => s.serve 1 State.takeIdent
  | .readTable t i c => s.serve 2 fun s => s.takeReadTable t i c
  | .readNext => s.serve 3 State.takeReadNext
  | .writeTable t i rs => s.serve 4 fun s => s.takeWriteTable t i rs
  | .writeNext rs => s.serve 5 fun s => s.takeWriteNext rs
  | .storeTable t => s.serve 6 fun s => s.takeStore t
  | .readCauses c => s.serve 7 fun s => s.takeReadCauses c
  | .clearCauses cs => s.serve 8 fun s => s.takeClearCauses cs
  | .releaseAttn => s.serveRelease
  | .setMask cs => s.serve 10 fun s => s.takeSetMask cs
  | .switch o x => s.serve 11 fun s => s.takeSwitch o x
  | .setLight c d f => s.serve 12 fun s => s.takeSetLight c d f
  | .recallScene n => s.serve 13 fun s => s.takeRecallScene n
  | .move a d => s.serve 14 fun s => s.takeMove a d
  | .stopMove a => s.serve 15 fun s => s.takeStopMove a
  | .setClimate m p => s.serve 16 fun s => s.takeSetClimate m p
  | .resetHeater => s.serve 17 State.takeResetHeater
  | .openDrain => s.serve 18 State.takeOpenDrain
  | .closeDrain => s.serve 19 State.takeCloseDrain
  | .clearFault o c => s.serve 20 fun s => s.takeClearFault o c
  | .markFull => s.serve 21 State.takeMarkFull
  | .sleep => s.serveSleep
  | .restart => s.serve 23 State.takeRestart

/-- R183, items 1 and 2, then the request: a good frame for this unit. -/
def State.ownFrame (s : State) (kind : Byte) (payload : List Byte) : State :=
  match readFrame kind.toNat payload with
  | .unknownKind => s.serve kind.toNat fun s => (s, .unknownKind)
  | .badLength => s.serve kind.toNat fun s => (s, .badLength)
  | .request r => s.request r

/-! ## Broadcasts (R182) -/

/-- R182: a broadcast SLEEP wakes nothing; every unit judges it by itself. -/
def State.broadcastSleep (s : State) (payload : List Byte) : State :=
  let s := s.modWorks Works.restartSilence
  match payload with
  | [] => s.sleepAfter s.takeSleep.2
  | _ => s

/-- R182, R171: a broadcast RECALL-SCENE or SET-CLIMATE wakes the unit and is taken without a reply. -/
def State.broadcastTaken (s : State) (kind : Nat) (payload : List Byte) : State :=
  let s := s.modWorks Works.frameHeard
  match readFrame kind payload with
  | .request (.recallScene n) => (s.takeRecallScene n).1
  | .request (.setClimate m p) => (s.takeSetClimate m p).1
  | _ => s

/-- R182: a good frame at the broadcast address. -/
def State.broadcast (s : State) (kind : Byte) (payload : List Byte) : State :=
  if kind.toNat = 22 then s.broadcastSleep payload
  else if kind.toNat = 13 ∨ kind.toNat = 16 then s.broadcastTaken kind.toNat payload
  else s.modWorks fun w => w.postLink .broadcast (some 15) (some kind)

/-! ## The receiver (R181) -/

/-- R181: the SYNC byte. -/
def syncByte : Byte := 0xC3

/-- R181: the broadcast address. -/
def broadcastAddress : Byte := 15

def State.setReceiver (s : State) (r : Receiver) : State := s.modLink fun l => { l with receiver := r }

/-- R181, R190: a frame is abandoned: LINK is posted with what was received of its ADDR and KIND. -/
def State.abandon (s : State) (frame : List Byte) (next : Receiver) : State :=
  (s.setReceiver next).modWorks fun w => w.postLink .frame frame[0]? frame[1]?

/-- R182: a frame is complete, from its ADDR byte to its CHECK byte. -/
def State.frameDone (s : State) (frame : List Byte) : State :=
  let s := s.setReceiver .hunting
  match frame with
  | addr :: kind :: _ :: rest =>
    if frameSum frame ≠ 0 then s.modWorks fun w => w.postLink .check (some addr) (some kind)
    else if addr = broadcastAddress then s.broadcast kind rest.dropLast
    else s.ownFrame kind rest.dropLast
  | _ => s

/-- The LEN of a frame in reception, once it has come. -/
def frameLen? (frame : List Byte) : Option Nat := frame[2]?.map (·.toNat)

/-- The bytes of a whole frame of a LEN, from ADDR to CHECK. -/
def frameSize (len : Nat) : Nat := len + 4

/-- R181, RECEIVING: a byte with a good stop bit, `frame` holding it as its last. -/
def State.received (s : State) (frame : List Byte) : State :=
  match frame with
  | [addr] =>
    if addr.toNat = s.works.link.unit.toNat ∨ addr = broadcastAddress then s.setReceiver (.receiving frame)
    else s.setReceiver .ignoring
  | _ =>
    match frameLen? frame with
    | some len =>
      if 40 < len then s.abandon frame .ignoring
      else if frameSize len ≤ frame.length then s.frameDone frame
      else s.setReceiver (.receiving frame)
    | none => s.setReceiver (.receiving frame)

/-- R181, R182: the receiver is off from the taking of a frame that is answered until its reply has been sent: while the
reply is being sent, and while RELEASE-ATTN's waits for its test (R192). -/
def Link.off (l : Link) : Bool := l.sending.isSome || l.releasing

/-- R181: a byte on the link; nothing is received while the receiver is off. A byte with a bad stop bit abandons the frame
whatever its place and value, another unit's address in the ADDR place among them (DEDUCED, log entry 26). -/
def State.byte (s : State) (b : Byte) (stopBitGood : Bool) : State :=
  if s.works.link.off then s
  else
    let s := s.modLink fun l => { l with gap := 0 }
    match s.works.link.receiver with
    | .hunting => if b = syncByte ∧ stopBitGood then s.setReceiver (.receiving []) else s
    | .ignoring => s
    | .receiving frame => if stopBitGood then s.received (frame ++ [b]) else s.abandon frame .ignoring

/-- R181: the gap has passed 4 ms, the receiver not being off for a reply. -/
def Link.gapOver (l : Link) : Bool := !l.off && decide (4 < l.gap)

/-- R181: a gap above 4 ms. -/
def State.gapOut (s : State) : State :=
  if s.works.link.gapOver then
    match s.works.link.receiver with
    | .hunting => s
    | .ignoring => s.setReceiver .hunting
    | .receiving frame => s.abandon frame .hunting
  else s

/-- R181: the receiver is off HUNTING and the gap has passed 4 ms. -/
def Link.gapDue (l : Link) : Bool := l.receiver != .hunting && l.gapOver

/-! ## Bytes on the wire (R195) -/

/-- R195: a reply as it goes out, from SYNC to CHECK. -/
def Reply.frame (r : Reply) (unit : BitVec 2) : List Byte :=
  let body := BitVec.ofNat 8 (unit.toNat + 128) :: r.kind :: r.status :: r.summary
    :: BitVec.ofNat 8 r.payload.length :: r.payload
  syncByte :: body ++ [checkByte body]

/-- R181: a request frame to an address, from SYNC to CHECK. -/
def requestFrame (addr : Byte) (kind : Nat) (payload : List Byte) : List Byte :=
  let body := addr :: BitVec.ofNat 8 kind :: BitVec.ofNat 8 payload.length :: payload
  syncByte :: body ++ [checkByte body]

end Sys2Proof.Machine
end

