-- ==== Sys2Proof/Machine/Start.lean ====
section
/-! DEFINITION. The fall of the supply and the three reset kinds (R14, R38, R61, R83, R100, R122, R140, R165, R173 to R176,
R194). -/

namespace Sys2Proof.Machine

/-! ## Chapter by chapter: what a reset keeps -/

/-- R38: confidence over a BROWN-OUT. -/
def Confidence.drift : Confidence → Confidence
  | .calibrated => .drifted
  | c => c

/-- R38: the account over a BROWN-OUT or a RESTART. -/
def Account.keep (a : Account) (confidence : Confidence) : Account :=
  { a with
    confidence := confidence
    restClock := none
    restTaken := false
    fullClock := none
    lowCount := 0
    cutCount := 0
    releaseCount := 0
    bankTemp := .invalid
    saturated := false
    lastTable := none
    lastIncrement := 0
    lastBv := .invalid
    lastBi := .invalid }

/-- R38: the account after a reset kind, with the loaded tables. -/
def Account.afterReset (a : Account) (kind : ResetKind) (live : Tables) : Account :=
  match kind with
  | .powerOn => .start live.bank live.shed
  | .brownOut => a.keep a.confidence.drift
  | .restart => a.keep a.confidence

/-- R83: a Fault Table record over a RESTART. -/
def FaultRecord.keep (r : FaultRecord) : FaultRecord :=
  match r.state with
  | .latched => { r with clean := 0 }
  | _ => { r with state := .clear, attempts := 0, clean := 0 }

/-- R83: the Fault Table after a reset kind. -/
def FaultRecord.afterReset (r : FaultRecord) : ResetKind → FaultRecord
  | .restart => r.keep
  | _ => .blank

/-- R83: an output has a kept LATCHED record. -/
def latchedIn (faults : Vector FaultRecord 36) (o : OutId) : Bool :=
  [FaultCause.overcurrent, .short, .openLoad].any fun c =>
    match faults[faultIndex o c].state with | .latched => true | _ => false

/-- R64, R83: the output stages after a reset kind, with the loaded Load Table. -/
def Stages.afterReset (s : Stages) (kind : ResetKind) (load : LoadTable) : Stages :=
  let faults := vmap (fun r => r.afterReset kind) s.faults
  { outs := vmapIdx (fun i r =>
      Output.start r (if h : i < 12 then (if latchedIn faults ⟨i, h⟩ then .latched else .off) else .off)) load
    faults := faults
    thermal := s.thermal.afterReset kind
    stage := 0
    staged := false
    lastDie := .invalid
    fanDuty := 0 }

/-- R100: the lights after every reset kind. -/
def Lights.afterReset (stages : Stages) (condition : Condition) : Lights where
  channels := #v[start 0, start 1, start 2, start 3, start 4, start 5]
  courtesy := .idle
  forced := condition == .driving
where
  start (ch : LightId) : Light := .start (if stages.outs[lightOut ch].isLatched then .cut else .none)

/-- R122: the lockout reason kept over a RESTART. -/
def Heater.keptReason (h : Heater) (kind : ResetKind) : Option LockoutReason :=
  match kind, h with
  | .restart, .lockout reason => some reason
  | _, _ => none

/-- R122: the table. A start purge is given with its reason, purge time, clock 0 and after purge. -/
def heaterAtStart (kept : Option LockoutReason) (fanLatched burnerLatched flame : Bool) : Heater :=
  let purging (after : AfterPurge) : Heater := .purging ⟨.start, PurgeReason.start.seconds, 0, after⟩
  if fanLatched then .lockout (kept.getD .hfanFault)
  else match burnerLatched, flame, kept with
    | true, true, _ => purging (.lockout (kept.getD .hbrnFault))
    | true, false, _ => .lockout (kept.getD .hbrnFault)
    | false, true, some reason => purging (.lockout reason)
    | false, true, none => purging .off
    | false, false, some reason => .lockout reason
    | false, false, none => .off

/-- R140: the drain state taken from the position input. -/
def drainAtStart (position : DrainPos) (latched : Bool) : Drain :=
  match position with
  | .opened => .opened
  | .neither => .fault
  | .closed => if latched then .fault else .closed

/-- R165: an axis record by the retracted switch. -/
def AxisRecord.bySwitch (retracted extended : Bool) : AxisRecord :=
  if retracted then ⟨.retracted, some 0, true, extended⟩ else ⟨.unknown, none, false, extended⟩

/-- R165: an axis record after a reset kind; `known` says that the position was known at the drive start of the move it is
making. -/
def AxisRecord.afterReset (r : AxisRecord) (kind : ResetKind) (known retracted extended : Bool) : AxisRecord :=
  let lost : AxisRecord := ⟨.unknown, none, retracted, extended⟩
  let moving := match r.state with | .extending => true | .retracting => true | _ => false
  match kind, moving with
  | .powerOn, _ => .bySwitch retracted extended
  | _, false => { r with retractedSwitch := retracted, extendedSwitch := extended }
  | .brownOut, true => lost
  | .restart, true => if known then ⟨.part, r.position, retracted, extended⟩ else lost

/-- The position of an axis was known at the drive start of the move the stage drives. -/
def Motion.knownMove (m : Motion) (a : Axis) : Bool :=
  match m.stage with
  | .driving h => h.entry.axis == a && h.known
  | _ => false

/-- R165: the motion block after a reset kind, before R142 and R158 act at start. -/
def Motion.afterReset (m : Motion) (kind : ResetKind) (setup : MotionSetup) (pins : Inputs) (motorLatched : Bool)
    (condition : Condition) : Motion :=
  .start setup (m.awn.afterReset kind (m.knownMove .awn) pins.awnRetracted false)
    (m.step.afterReset kind (m.knownMove .step) pins.stepRetracted pins.stepExtended)
    (if motorLatched then .held else .idle) condition

/-! ## Conditions and pins (R132, R166, R175) -/

/-- R175: the condition that the pins give at start. -/
def conditionAtStart (ign dplus : Bool) : Condition :=
  if ign then (if dplus then .driving else .ready) else .parked

/-- R132: the drain position that the two end contacts read. -/
def drainReading (p : Inputs) : DrainPos :=
  match p.drainOpenContact, p.drainClosedContact with
  | true, false => .opened
  | false, true => .closed
  | _, _ => .neither

/-! ## What the blocks do at start -/

/-- R122: a LOCKOUT entered at start posts HEATER. No rule names the state before it: a free value (log entry 3). -/
def Works.lockedAtStart (w : Works) (reason : LockoutReason) : Works :=
  let x := w.takeFree
  x.2.postHeater ⟨reason, HeaterPhase.ofCode x.1, 0, 0⟩

/-- R113, R122: a start purge sends its class 0 fan request; a LOCKOUT at start is posted. -/
def Works.heaterStarts (w : Works) : Works :=
  match w.climate.heater with
  | .purging p => w.purge p.reason p.after
  | .lockout reason => w.lockedAtStart reason
  | _ => w

/-- R140: a start in FAULT posts DRAIN with reason START. No rule names the state before it: a free value (log entry
3). -/
def Works.drainStarts (w : Works) : Works :=
  match w.water.drain with
  | .fault =>
    let x := w.takeFree
    x.2.postDrainChange (DrainState.ofCode x.1) .start
  | _ => w

/-- R165: R142 applied once to an axis against its switches. Each state so moved judges the depart line as R160 gives, before the
one judgement of R165 (DEDUCED, log entry 20). -/
def Works.axisStarts (w : Works) (a : Axis) : Works :=
  let w := w.undrivenSwitch a true (w.motion.axis a).retractedSwitch
  match a with
  | .awn => w
  | .step => w.undrivenSwitch a false w.motion.step.extendedSwitch

/-- R158, R165: a start in READY or DRIVING. -/
def Works.ignitionAtStart (w : Works) : Works := if w.motion.condition.moving then w.ignitionRetract else w

/-- R165: the axes, the depart-warning line and the ignition retract at start. -/
def Works.motionStarts (w : Works) : Works := (((w.axisStarts .awn).axisStarts .step).judgeDepart).ignitionAtStart

/-! ## The reset -/

/-- R175: the Start Record. -/
def State.startRecord (s : State) (kind : ResetKind) : StartRecord where
  kind := kind
  fromDefaults := s.settings.stored.bad
  before := match kind with | .powerOn => none | _ => some s.works.vehicle.condition
  interrupted := match kind with | .brownOut => s.settings.run.map (·.table) | _ => none

/-- Every block as it starts at reset completion, before what the blocks do at start. -/
def State.started (s : State) (kind : ResetKind) (pins : Inputs) : Works :=
  let live := s.settings.stored.loaded
  let record := s.startRecord kind
  let account := s.account.afterReset kind live
  let stages := s.works.stages.afterReset kind live.load
  let condition := conditionAtStart pins.ign pins.dplus
  let heater := heaterAtStart (s.works.climate.heater.keptReason kind) stages.outs[HFAN].isLatched
    stages.outs[HBRN].isLatched pins.flame
  { arbiter := .start account.shedLevel live.shed
    stages := stages
    lights := .afterReset stages condition
    climate := .start live.climate pins.flame heater
    water := .start live.water pins.psw (drainReading pins)
      (drainAtStart (drainReading pins) (kind == .restart && stages.outs[DRAIN].isLatched)) heater.phase
    motion := s.works.motion.afterReset kind live.motion pins stages.outs[MOTOR].isLatched condition
    vehicle := .start condition pins.ign pins.dplus pins.door record
    link := .start live pins.straps record
    inbox := []
    free := s.works.free }

/-- R173, R175: a reset of a kind with the pins as they stand at reset completion. The queue of waiting commands is not
the part's own and stays. -/
def State.resetAs (s : State) (kind : ResetKind) (pins : Inputs) : State :=
  let live := s.settings.stored.loaded
  { pending := s.pending
    powered := true
    inputs := pins
    runs := .none
    scanner := .start live.channel
    account := s.account.afterReset kind live
    works := (((s.started kind pins).heaterStarts).drainStarts.motionStarts).settle
    settings := ⟨s.settings.stored, none, none⟩ }

/-! ## The supply (R173, R174, R181) -/

/-- R173: the supply falls below the operating level: every output stage is off, a frame in reception or a reply in
transmission is lost, the blocks take nothing more. The store that was running stays named for the Start Record. -/
def State.supplyFalls (s : State) : State :=
  { s with
    powered := false
    works := { s.works.allOff with
      link := { s.works.allOff.link with receiver := .hunting, sending := none, releasing := false } } }

/-- R173: the kind of the reset that a rise of the supply makes. -/
def riseKind (fellBelowRetention retentionGood : Bool) : ResetKind :=
  if fellBelowRetention || !retentionGood then .powerOn else .brownOut

/-- R174, R181: the last byte of a reply has gone: the receiver enters HUNTING, and after RESTART's reply the part
resets. -/
def State.replyGone (s : State) : State :=
  match s.works.link.sending with
  | none => s
  | some _ =>
    let s := s.modLink fun l => { l with sending := none, receiver := .hunting, gap := 0 }
    if s.works.vehicle.restarting then s.resetAs .restart s.inputs else s

end Sys2Proof.Machine
end

