-- ==== Sys2Proof/Machine/Clock.lean ====
section
/-! DEFINITION. The part's own clock: one millisecond of it, and the commands that fall due at its end (log entry 1). The
tick moves timers and debounce runs alone; whatever a timer brings about is the command that falls due. -/

namespace Sys2Proof.Machine

/-! ## Timers, one millisecond on -/

/-- A running clock that counts up. -/
def later (t : Option Nat) : Option Nat := t.map (· + 1)

/-- R73: the time left in TIMING. -/
def Driven.advance : Driven → Driven
  | .cutWait (.timing left) => .cutWait (.timing (left - 1))
  | d => d

/-- R74: the clean timer of a RETRYING record runs while its output is ON. -/
def FaultRecord.advance (on : Bool) (r : FaultRecord) : FaultRecord :=
  match r.state with
  | .retrying => if on then { r with clean := r.clean + 1 } else r
  | _ => r

/-- The output that a Fault Table record belongs to (section 4.7). -/
def outOfFault (s : Stages) (i : Nat) : Bool := if h : i / 3 < 12 then (s.outs[i / 3]).isOn else false

def Stages.advance (s : Stages) : Stages :=
  { s with
    outs := vmap (fun x => { x with driven := x.driven.advance }) s.outs
    faults := vmapIdx (fun i r => r.advance (outOfFault s i)) s.faults }

/-- R88: the time since a fade's start boundary. -/
def Fade.advance (f : Fade) : Fade := if f.start.isSome then { f with clock := f.clock + 1 } else f

/-- R96, R97: the courtesy timer. -/
def Courtesy.advance : Courtesy → Courtesy
  | .holding left => .holding (left - 1)
  | c => c

def Lights.advance (l : Lights) : Lights :=
  { l with
    channels := vmap (fun x => { x with fade := x.fade.map Fade.advance }) l.channels
    courtesy := l.courtesy.advance }

/-- R109, R113: the ignition timer, and the purge clock while HFAN is ON. -/
def Heater.advance (fanOn : Bool) : Heater → Heater
  | .igniting t => .igniting (t + 1)
  | .purging p => .purging (if fanOn then { p with clock := p.clock + 1 } else p)
  | h => h

/-- R133: the pulse clock while DRAIN is ON, the confirm clock with it and freely once the pulse is complete. -/
def DrainPulse.advance (on : Bool) (p : DrainPulse) : DrainPulse :=
  if p.complete then { p with confirm := p.confirm + 1 }
  else if p.started && on then { p with clock := p.clock + 1, confirm := p.confirm + 1 }
  else p

/-- R130: the frost timer. -/
def FrostTimer.advance : FrostTimer → FrostTimer
  | .running t => .running (t + 1)
  | f => f

def Water.advance (w : Water) (drainOn : Bool) : Water :=
  { w with
    dryTimer := later w.dryTimer
    runTimer := later w.runTimer
    frost := w.frost.advance
    drain := w.drain.modPulse (DrainPulse.advance drainOn) }

/-- R146, R152: the pause left and the jam timer. -/
def MotorStage.advance : MotorStage → MotorStage
  | .pausing m => .pausing { m with pauseLeft := m.pauseLeft - 1 }
  | .driving m => .driving { m with jamTimer := m.jamTimer + 1 }
  | s => s

def Motion.advance (m : Motion) : Motion :=
  { m with stage := m.stage.advance, windHold := m.windHold.map (· - 1) }

def Vehicle.advance (v : Vehicle) : Vehicle := { v with uptime := v.uptime + 1, silence := later v.silence }

/-- Every timer of the works. -/
def Works.advance (w : Works) : Works :=
  { w with
    stages := w.stages.advance
    lights := w.lights.advance
    climate := { w.climate with heater := w.climate.heater.advance (w.out HFAN).isOn }
    water := w.water.advance (w.out DRAIN).isOn
    motion := w.motion.advance
    vehicle := w.vehicle.advance
    link := { w.link with gap := w.link.gap + 1 } }

/-! ## Debouncing (R105, R125, R132, R141, R166) -/

/-- The interval of the samples of the digital inputs, in ms. -/
def sampleInterval : Nat := 10

/-- A sample of an input: one that agrees with the present state ends any run, one that disagrees starts a run from zero
or carries it on. -/
def debounce (run : Option Nat) (agrees : Bool) : Option Nat :=
  if agrees then none
  else match run with
    | none => some 0
    | some t => some (t + sampleInterval)

/-- R132: a sample of the drain position; a run is for one position. -/
def debounceDrain (run : Option (DrainPos × Nat)) (present reading : DrainPos) : Option (DrainPos × Nat) :=
  if reading = present then none
  else match run with
    | some (p, t) => if p = reading then some (p, t + sampleInterval) else some (reading, 0)
    | none => some (reading, 0)

/-- Every digital input sampled once. -/
def State.sampled (s : State) : Runs :=
  let v := s.works.vehicle
  let m := s.works.motion
  { ign := debounce s.runs.ign (s.inputs.ign == v.ign)
    dplus := debounce s.runs.dplus (s.inputs.dplus == v.dplus)
    door := debounce s.runs.door (s.inputs.door == v.door)
    flame := debounce s.runs.flame (s.inputs.flame == s.works.climate.flame)
    psw := debounce s.runs.psw (s.inputs.psw == s.works.water.psw)
    drain := debounceDrain s.runs.drain s.works.water.position (drainReading s.inputs)
    awnRetracted := debounce s.runs.awnRetracted (s.inputs.awnRetracted == m.awn.retractedSwitch)
    stepRetracted := debounce s.runs.stepRetracted (s.inputs.stepRetracted == m.step.retractedSwitch)
    stepExtended := debounce s.runs.stepExtended (s.inputs.stepExtended == m.step.extendedSwitch) }

/-! ## What falls due -/

/-- A command where it is due. -/
def dueIf (due : Bool) (i : Instr) : List Instr := if due then [i] else []

/-- The debounced changes (R105, R125, R132, R141, R166), by the lengths of their runs. -/
def State.dueChanges (s : State) : List Instr :=
  let p := s.inputs
  dueIf (reached s.runs.ign 100) (.ignChange p.ign) ++ dueIf (reached s.runs.dplus 2000) (.dplusChange p.dplus)
    ++ dueIf (reached s.runs.door 50) (.doorChange p.door)
    ++ dueIf (reached s.runs.flame (if p.flame then 1000 else 2000)) (.flameStateChange p.flame)
    ++ dueIf (reached s.runs.psw (if p.psw then 100 else 300)) (.pswChange p.psw)
    ++ (match s.runs.drain with
        | some (position, t) => dueIf (decide (100 ≤ t)) (.drainPositionChange position)
        | none => [])
    ++ dueIf (reached s.runs.awnRetracted 30) (.axisSwitchChange .awnRetracted p.awnRetracted)
    ++ dueIf (reached s.runs.stepRetracted 30) (.axisSwitchChange .stepRetracted p.stepRetracted)
    ++ dueIf (reached s.runs.stepExtended 30) (.axisSwitchChange .stepExtended p.stepExtended)

/-- R73, R74: what falls due at an output. -/
def Works.dueOutput (w : Works) (o : OutId) : List Instr :=
  dueIf ((w.out o).driven == .cutWait (.timing 0)) (.retryExpiry o)
    ++ [FaultCause.overcurrent, .short, .openLoad].flatMap fun c => dueIf (w.cleanDue o c) (.cleanTimerExpiry o c)

/-- R88: a fade tick ends. -/
def Light.tickDue (l : Light) : Bool :=
  match l.fade with
  | some f => f.start.isSome && decide (f.done < f.ticks) && decide (20 * (f.done + 1) ≤ f.clock)
  | none => false

/-- R109, R114: the ignition timer, and a purge whose flame is out. -/
def Climate.dueHeater (c : Climate) : List Instr :=
  match c.heater with
  | .igniting t => dueIf (decide (ignitionLimit ≤ t)) .ignitionTimeout
  | .purging p => dueIf (p.timeUp && !c.flame) .purgeEnd
  | _ => []

/-- R133: the pulse and its confirm window. -/
def DrainPulse.due (p : DrainPulse) : List Instr :=
  dueIf p.windowOver .confirmWindowExpiry ++ dueIf p.over .pulseComplete

/-- R128, R130, R133. -/
def Water.due (w : Water) : List Instr :=
  dueIf (reached w.dryTimer dryLimit) .dryRunExpiry ++ dueIf (reached w.runTimer (w.adopted.runLimit * 1000)) .runLimitExpiry
    ++ dueIf w.frostDue .frostExpiry
    ++ (match w.drain.pulse? with
        | some p => p.due
        | none => [])

/-- R144, R146, R152, R157. -/
def Motion.due (m : Motion) (now : Nat) : List Instr :=
  (match m.stage with
    | .pausing h => dueIf (decide (h.pauseLeft = 0)) .driveStart
    | .driving h => dueIf (decide (jamLimit ≤ h.jamTimer)) .jamExpiry
    | _ => [])
    ++ (m.queue.flatMap fun e =>
        dueIf (e.expired now) (.entryExpiry e.axis))
    ++ dueIf (m.windHold == some 0) .windHoldExpiry

/-- R177: a store phase of 10 ms is over; the store's memory does what the input says. -/
def Settings.due (s : Settings) (good : Bool) : List Instr :=
  match s.run with
  | some r =>
    if 10 ≤ r.clock then
      match r.phase with
      | .erase => [.storeErase good]
      | .write => [.storeRecordWrite good]
      | .verify => [.storeVerify (if good then none else some 0)]
    else []
  | none => []

/-- The expiries of the part's own timers. -/
def State.dueExpiries (s : State) : List Instr :=
  let w := s.works
  allOuts.flatMap w.dueOutput ++ dueIf (w.lights.courtesy == .holding 0) .courtesyTimeout ++ w.climate.dueHeater
    ++ w.water.due ++ w.motion.due w.vehicle.uptime ++ dueIf w.silenceDue .silenceExpiry
    ++ dueIf w.link.releasing .attnRetest ++ dueIf w.link.gapDue .linkGapTimeout ++ s.settings.due s.inputs.storeGood

/-- R84, R88: the fade ticks that end, then the boundary they are placed for. -/
def State.dueBoundary (s : State) : List Instr :=
  (allLights.flatMap fun ch => dueIf (s.works.light ch).tickDue (.fadeTick ch))
    ++ dueIf (s.works.vehicle.uptime % 5 == 0) .periodBoundary

/-- R5, R8, R9: a pass: its start, the bank pair, then the other channels (R8 gives them no order). -/
def State.duePass (s : State) : List Instr :=
  let p := s.inputs
  if s.scanner.untilPass = 0 then
    [.passStart, .bankPair p.bv p.bi, .channelSample (.tBank p.tBank), .channelSample (.tCabin p.tCabin),
      .channelSample (.tWater p.tWater), .channelSample (.tDie p.tDie),
      .channelSample (.fresh p.fresh25 p.fresh50 p.fresh75 p.fresh100), .channelSample (.grey p.greyHalf p.greyFull),
      .channelSample .wind]
  else []

/-- R67: the refreshes of the twelve measured currents. -/
def State.dueRefreshes (s : State) : List Instr :=
  if s.works.vehicle.uptime % sampleInterval = 0 then allOuts.map fun o => .currentRefresh o s.inputs.currents[o]
  else []

/-- All that falls due, in the model's order (log entry 1). -/
def State.due (s : State) : List Instr :=
  s.dueChanges ++ s.dueExpiries ++ s.dueBoundary ++ s.duePass ++ s.dueRefreshes

/-! ## The tick -/

/-- One millisecond of every timer, and the samples of the digital inputs where they fall. -/
def State.advance (s : State) : State :=
  let s := { s with
    scanner := { s.scanner with untilPass := s.scanner.untilPass - 1 }
    works := s.works.advance
    settings := { s.settings with run := s.settings.run.map fun r => { r with clock := r.clock + 1 } } }
  if s.works.vehicle.uptime % sampleInterval = 0 then { s with runs := s.sampled } else s

/-- A tick of the part's clock: the commands that fall due wait, first in first out. Below the operating level of the
supply the blocks take no events (R173), and the part idles. -/
def State.tick (s : State) : State :=
  if s.powered then
    let s := s.advance
    { s with pending := s.due }
  else s

end Sys2Proof.Machine
end

