-- ==== Sys2Proof/Machine/Effect.lean ====
section
/-! DEFINITION. How a command acts: on a part whose supply is up, always with a next state; below the operating level no block takes
an event (R173). Also the pins, as the operand of a command leaves them (log entry 6). -/

namespace Sys2Proof.Machine

/-- What a command answers. -/
abbrev Result := Host.Outcome State Fault Refusal

/-- R173: "Blocks take no further events" while the supply is below the operating level; otherwise the command has its
effect. -/
def State.takes (s : State) (effect : State → State) : Result := .next (if s.powered then effect s else s)

/-- The effect of a command on the works alone, its notices delivered (R56, R80). -/
def State.atWorks (s : State) (f : Works → Works) : State := { s with works := (f s.works).settle }

/-- The pins changed as a command's operand says. -/
def State.pins (s : State) (f : Inputs → Inputs) : State := { s with inputs := f s.inputs }

/-- The debounce runs changed. -/
def State.ended (s : State) (f : Runs → Runs) : State := { s with runs := f s.runs }

/-- A change of a debounced state is one event; a state that already stands is no change. -/
def State.onChange (s : State) (changes : Bool) (f : State → State) : State := if changes then f s else s

/-- The pins of the two end contacts for a drain position. -/
def drainPins (p : Inputs) (position : DrainPos) : Inputs :=
  match position with
  | .opened => { p with drainOpenContact := true, drainClosedContact := false }
  | .closed => { p with drainOpenContact := false, drainClosedContact := true }
  | .neither => { p with drainOpenContact := false, drainClosedContact := false }

/-- The pin of an axis switch. -/
def switchPin (p : Inputs) (switch : AxisSwitch) (closed : Bool) : Inputs :=
  match switch with
  | .awnRetracted => { p with awnRetracted := closed }
  | .stepRetracted => { p with stepRetracted := closed }
  | .stepExtended => { p with stepExtended := closed }

/-- The run of an axis switch ended. -/
def Runs.endSwitch (r : Runs) (switch : AxisSwitch) : Runs :=
  match switch with
  | .awnRetracted => { r with awnRetracted := Option.none }
  | .stepRetracted => { r with stepRetracted := Option.none }
  | .stepExtended => { r with stepExtended := Option.none }

/-- The debounced state of an axis switch (section 8.1). -/
def Motion.switch (m : Motion) : AxisSwitch → Bool
  | .awnRetracted => m.awn.retractedSwitch
  | .stepRetracted => m.step.retractedSwitch
  | .stepExtended => m.step.extendedSwitch

/-- The analog levels and probes that a sampling meets. -/
def channelPins (p : Inputs) : ChannelInput → Inputs
  | .tBank x => { p with tBank := x }
  | .tCabin x => { p with tCabin := x }
  | .tWater x => { p with tWater := x }
  | .tDie x => { p with tDie := x }
  | .fresh a b c d => { p with fresh25 := a, fresh50 := b, fresh75 := c, fresh100 := d }
  | .grey a b => { p with greyHalf := a, greyFull := b }
  | .wind => p

end Sys2Proof.Machine
end

