-- ==== Sys2Proof/Machine/HeatCommands.lean ====
section
/-! DEFINITION. The Cabin Heating. -/

namespace Sys2Proof.Machine

/-- A change of the flame state (R105). -/
def execFlameStateChange (seen : Bool) (s : State) : Result :=
  s.takes fun s =>
    ((s.pins fun p => { p with flame := seen }).ended fun r => { r with flame := none }).onChange
      (s.works.climate.flame != seen) fun s => s.atWorks fun w => w.flameChanged seen

/-- The ignition timer reaches 90 s (R109). -/
def execIgnitionTimeout (s : State) : Result :=
  s.takes fun s => s.atWorks Works.ignitionOut

/-- The purge clock reaches the purge time (R114). -/
def execPurgeEnd (s : State) : Result :=
  s.takes fun s => s.atWorks Works.purgeExpiry

end Sys2Proof.Machine
end

