-- ==== Sys2Proof/Machine/HostCommands.lean ====
section
/-! DEFINITION. The requests of the host: each command is a good frame for this unit with that request, completed (R182). -/

namespace Sys2Proof.Machine

/-- IDENT (R185), with the straps as they read now. -/
def execIdent (strapsNow : BitVec 2) (s : State) : Result :=
  s.takes fun s => (s.pins fun p => { p with straps := strapsNow }).serve 1 State.takeIdent

/-- READ-TABLE (R186). -/
def execReadTable (table index count : Byte) (s : State) : Result :=
  s.takes fun s => s.serve 2 fun s => s.takeReadTable table index count

/-- READ-NEXT (R186). -/
def execReadNext (s : State) : Result :=
  s.takes fun s => s.serve 3 State.takeReadNext

/-- WRITE-TABLE (R187): a table code outside 0 to 18 is judged before the length (R183). -/
def execWriteTable (table index : Byte) (records : List Byte) (s : State) : Result :=
  s.takes fun s => s.serve 4 fun s => s.takeWriteTable table index records

/-- WRITE-NEXT (R187). -/
def execWriteNext (records : List Byte) (s : State) : Result :=
  s.takes fun s => s.serve 5 fun s => s.takeWriteNext records

/-- STORE-TABLE (R177). -/
def execStoreTable (table : Byte) (s : State) : Result :=
  s.takes fun s => s.serve 6 fun s => s.takeStore table

/-- READ-CAUSES (R191). -/
def execReadCauses (cause : Option Byte) (s : State) : Result :=
  s.takes fun s => s.serve 7 fun s => s.takeReadCauses cause

/-- CLEAR-CAUSES (R191). -/
def execClearCauses (causes : FlagSet) (s : State) : Result :=
  s.takes fun s => s.serve 8 fun s => s.takeClearCauses causes

/-- RELEASE-ATTN (R192): its reply comes with ATTN_RETEST. -/
def execReleaseAttn (s : State) : Result :=
  s.takes State.serveRelease

/-- The test of the Cause Set 100 µs after RELEASE-ATTN, and its reply (R192). -/
def execAttnRetest (s : State) : Result :=
  s.takes State.retestAttn

/-- SET-MASK (R192). -/
def execSetMask (causes : FlagSet) (s : State) : Result :=
  s.takes fun s => s.serve 10 fun s => s.takeSetMask causes

/-- SWITCH (R189). -/
def execSwitch (output state : Byte) (s : State) : Result :=
  s.takes fun s => s.serve 11 fun s => s.takeSwitch output state

/-- SET-LIGHT (R86). -/
def execSetLight (channel : Byte) (duty : BitVec 16) (fadeTime : Byte) (s : State) : Result :=
  s.takes fun s => s.serve 12 fun s => s.takeSetLight channel duty fadeTime

/-- RECALL-SCENE (R94). -/
def execRecallScene (scene : Byte) (s : State) : Result :=
  s.takes fun s => s.serve 13 fun s => s.takeRecallScene scene

/-- MOVE (R154). -/
def execMove (axis direction : Byte) (s : State) : Result :=
  s.takes fun s => s.serve 14 fun s => s.takeMove axis direction

/-- STOP-MOVE (R155). -/
def execStopMove (axis : Byte) (s : State) : Result :=
  s.takes fun s => s.serve 15 fun s => s.takeStopMove axis

/-- SET-CLIMATE (R117). -/
def execSetClimate (mode : Byte) (setpoint : Option (BitVec 16)) (s : State) : Result :=
  s.takes fun s => s.serve 16 fun s => s.takeSetClimate mode setpoint

/-- RESET-HEATER (R118). -/
def execResetHeater (s : State) : Result :=
  s.takes fun s => s.serve 17 State.takeResetHeater

/-- OPEN-DRAIN (R135). -/
def execOpenDrain (s : State) : Result :=
  s.takes fun s => s.serve 18 State.takeOpenDrain

/-- CLOSE-DRAIN (R136). -/
def execCloseDrain (s : State) : Result :=
  s.takes fun s => s.serve 19 State.takeCloseDrain

/-- CLEAR-FAULT (R77), with what the load check would find at the output (R76). -/
def execClearFault (output cause : Byte) (load : LoadCheck) (s : State) : Result :=
  s.takes fun s =>
    (s.pins fun p => { p with loads := putAt output.toNat load p.loads }).serve 20 fun s => s.takeClearFault output cause

/-- MARK-FULL (R27). -/
def execMarkFull (s : State) : Result :=
  s.takes fun s => s.serve 21 State.takeMarkFull

/-- SLEEP (R170). -/
def execSleep (s : State) : Result :=
  s.takes State.serveSleep

/-- RESTART (R174). -/
def execRestart (s : State) : Result :=
  s.takes fun s => s.serve 23 State.takeRestart

end Sys2Proof.Machine
end

