-- ==== Sys2Proof/Machine/LightCommands.lean ====
section
/-! DEFINITION. The Cabin Lighting. -/

namespace Sys2Proof.Machine

/-- A period boundary of the lights and of HFAN (R62, R84, R85). -/
def execPeriodBoundary (s : State) : Result :=
  s.takes fun s => s.atWorks Works.boundary

/-- A tick of a channel's fade ends (R88). -/
def execFadeTick (channel : LightId) (s : State) : Result :=
  s.takes fun s => s.atWorks fun w => w.modLight channel Light.fadeTick

/-- A channel's fade ends (R88, R89). -/
def execFadeEnd (channel : LightId) (s : State) : Result :=
  s.takes fun s => s.atWorks fun w => w.fadeEnd channel

/-- The courtesy timer runs out (R97). -/
def execCourtesyTimeout (s : State) : Result :=
  s.takes fun s => (s.atWorks Works.courtesyOut).modWorks Works.settleCourtesy

end Sys2Proof.Machine
end

