-- ==== Sys2Proof/Machine/LinkCommands.lean ====
section
/-! DEFINITION. The bytes and silences of the link, the supply, and the phases of a store. -/

namespace Sys2Proof.Machine

/-- A byte on the link (R181, R182). -/
def execByteReceived (byte : Byte) (stopBitGood : Bool) (s : State) : Result :=
  s.takes fun s => s.byte byte stopBitGood

/-- A gap above 4 ms on the link (R181). -/
def execLinkGapTimeout (s : State) : Result :=
  s.takes State.gapOut

/-- The last byte of a reply has gone (R181, R174). -/
def execReplySent (s : State) : Result :=
  s.takes State.replyGone

/-- The supply falls below the operating level (R173). -/
def execSupplyFall (s : State) : Result :=
  s.takes State.supplyFalls

/-- The supply rises above the operating level: a reset of the kind R173 chooses, with the pins as they read then. Where
the supply is already above that level there is no rise, and nothing moves. -/
def execSupplyRise (fellBelowRetention retentionGood : Bool) (pins : Inputs) (s : State) : Result :=
  .next (if s.powered then s else s.resetAs (riseKind fellBelowRetention retentionGood) pins)

/-- The erase phase of a store is over (R177, R178). -/
def execStoreErase (blank : Bool) (s : State) : Result :=
  s.takes fun s => s.storeErased blank

/-- A record write of a store is over (R177, R178). -/
def execStoreRecordWrite (complete : Bool) (s : State) : Result :=
  s.takes fun s => s.storeWritten complete

/-- The verify phase of a store is over (R177, R178). -/
def execStoreVerify (differs : Option Nat) (s : State) : Result :=
  s.takes fun s => s.storeVerified differs

end Sys2Proof.Machine
end

