-- ==== Sys2Proof/Machine/MotionCommands.lean ====
section
/-! DEFINITION. The Awning, the Entry Step and the motor stage. -/

namespace Sys2Proof.Machine

/-- A change of a debounced axis switch (R141, R142, R150). -/
def execAxisSwitchChange (switch : AxisSwitch) (closed : Bool) (s : State) : Result :=
  s.takes fun s =>
    ((s.pins fun p => switchPin p switch closed).ended fun r => r.endSwitch switch).onChange
      (s.works.motion.switch switch != closed) fun s => s.atWorks fun w => w.switchChanged switch closed

/-- A hall pulse of an axis (R141). -/
def execHallPulse (axis : Axis) (s : State) : Result :=
  s.takes fun s => s.atWorks fun w => w.hallPulse axis

/-- An EXTEND reaches its travel (R150). -/
def execTravelReached (s : State) : Result :=
  s.takes fun s => s.atWorks Works.travelReached

/-- A RETRACT passes its limit (R153). -/
def execMoveOverrun (s : State) : Result :=
  s.takes fun s => s.atWorks Works.moveOverrun

/-- The stall timer reaches 300 ms (R151). -/
def execStallExpiry (s : State) : Result :=
  s.takes fun s => s.atWorks Works.stallExpiry

/-- The jam timer reaches 500 ms (R152). -/
def execJamExpiry (s : State) : Result :=
  s.takes fun s => s.atWorks Works.jammed

/-- The pause of a move has run out: the drive start (R146). -/
def execDriveStart (s : State) : Result :=
  s.takes fun s => s.atWorks Works.pauseOut

/-- An EXTEND entry has stood for 30 s (R144). -/
def execEntryExpiry (axis : Axis) (s : State) : Result :=
  s.takes fun s => s.atWorks fun w => w.entryExpiry axis

/-- The wind hold's timer runs out (R157). -/
def execWindHoldExpiry (s : State) : Result :=
  s.takes fun s => s.atWorks Works.windHoldOut

end Sys2Proof.Machine
end

