-- ==== Sys2Proof/Machine/OutputCommands.lean ====
section
/-! DEFINITION. The Output Stages and Fault Supervisor. -/

namespace Sys2Proof.Machine

/-- A refresh of an output's measured current, and its tests (R67 to R69); MOTOR's refresh carries the stall test (R151). -/
def execCurrentRefresh (out : OutId) (milliamps : Nat) (s : State) : Result :=
  s.takes fun s =>
    let s := (s.pins fun p => { p with currents := p.currents.set out milliamps }).atWorks fun w => w.refresh out milliamps
    if out = MOTOR then s.atWorks Works.stallTest else s

/-- An output's over-trip timer has run for its trip dwell (R68). -/
def execOvercurrentDwellExpiry (out : OutId) (s : State) : Result :=
  s.takes fun s => s.atWorks fun w => w.dwellExpiry out

/-- An output's open timer has run its window (R69). -/
def execOpenTimerExpiry (out : OutId) (s : State) : Result :=
  s.takes fun s => s.atWorks fun w => w.openExpiry out

/-- The retry time of an output in CUT-WAIT runs out (R73). -/
def execRetryExpiry (out : OutId) (s : State) : Result :=
  s.takes fun s => s.atWorks fun w => w.retryExpiry out

/-- The clean timer of a record reaches 60 s (R74). -/
def execCleanTimerExpiry (out : OutId) (cause : FaultCause) (s : State) : Result :=
  s.takes fun s => s.atWorks fun w => w.cleanExpiry out cause

end Sys2Proof.Machine
end

