-- ==== Sys2Proof/Machine/ScanCommands.lean ====
section
/-! DEFINITION. The Measurement Scanner and the Energy Account. -/

namespace Sys2Proof.Machine

/-- A pass starts (R5, R6, R10, R11). -/
def execPassStart (s : State) : Result :=
  s.takes State.passStart

/-- A pulse of the anemometer (R3). -/
def execWindPulse (s : State) : Result :=
  s.takes fun s => { s with scanner := s.scanner.windPulse }

/-- A channel other than BV and BI is sampled and published (R4, R8). -/
def execChannelSample (input : ChannelInput) (s : State) : Result :=
  s.takes fun s => (s.pins fun p => channelPins p input).channelSample input

/-- The bank pair is sampled, published and taken (R9, R16). -/
def execBankPair (bv bi : Int) (s : State) : Result :=
  s.takes fun s => (s.pins fun p => { p with bv := bv, bi := bi }).bankPair bv bi

/-- An account operation of one calibration, with its posting of BANK (R32). -/
def State.calibrate (s : State) (r : PairRun) : State :=
  { s with
    account := r.account
    works := s.works.postBankFor r.account (FlagSet.ofFlags [false, r.confChanged]) }

/-- The rest calibration by itself (R25). -/
def execRestCalibration (s : State) : Result :=
  s.takes fun s => s.calibrate s.account.restCalibration

/-- The full detection by itself (R26). -/
def execFullDetection (s : State) : Result :=
  s.takes fun s => s.calibrate s.account.fullDetection

end Sys2Proof.Machine
end

