-- ==== Sys2Proof/Machine/VehicleCommands.lean ====
section
/-! DEFINITION. The vehicle inputs and the silence of the link. -/

namespace Sys2Proof.Machine

/-- A change of the debounced IGN (R166, R167, R171). -/
def execIgnChange (on : Bool) (s : State) : Result :=
  s.takes fun s =>
    ((s.pins fun p => { p with ign := on }).ended fun r => { r with ign := none }).onChange
      (s.works.vehicle.ign != on) fun s => s.atWorks fun w => w.ignChanged on

/-- A change of the debounced DPLUS (R166, R167). -/
def execDplusChange (on : Bool) (s : State) : Result :=
  s.takes fun s =>
    ((s.pins fun p => { p with dplus := on }).ended fun r => { r with dplus := none }).onChange
      (s.works.vehicle.dplus != on) fun s => s.atWorks fun w => w.dplusChanged on

/-- A change of the debounced DOOR (R166, R171). -/
def execDoorChange (opened : Bool) (s : State) : Result :=
  s.takes fun s =>
    ((s.pins fun p => { p with door := opened }).ended fun r => { r with door := none }).onChange
      (s.works.vehicle.door != opened) fun s => s.atWorks fun w => w.doorChanged opened

/-- The silence timer reaches the silence time (R168). -/
def execSilenceExpiry (s : State) : Result :=
  s.takes fun s => s.atWorks Works.silenceOut

end Sys2Proof.Machine
end

