-- ==== Sys2Proof/Machine/WaterCommands.lean ====
section
/-! DEFINITION. The Water Tanks and the Frost Drain. -/

namespace Sys2Proof.Machine

/-- A change of the debounced pressure switch (R125); a closing is a wake source (R171). -/
def execPswChange (closed : Bool) (s : State) : Result :=
  s.takes fun s =>
    ((s.pins fun p => { p with psw := closed }).ended fun r => { r with psw := none }).onChange
      (s.works.water.psw != closed) fun s =>
        s.atWorks fun w => (if closed then w.wake .psw else w).pswChanged closed

/-- The dry timer reaches 15 s (R128). -/
def execDryRunExpiry (s : State) : Result :=
  s.takes fun s => s.atWorks Works.dryRun

/-- The run timer reaches the run limit (R128). -/
def execRunLimitExpiry (s : State) : Result :=
  s.takes fun s => s.atWorks Works.runLimit

/-- The frost expiry (R130), a wake source (R171). -/
def execFrostExpiry (s : State) : Result :=
  s.takes fun s =>
    if s.works.water.frostDue then s.atWorks fun w => (w.wake .frost).frostExpire else s

/-- A change of the debounced drain position (R132). -/
def execDrainPositionChange (position : DrainPos) (s : State) : Result :=
  s.takes fun s =>
    ((s.pins fun p => drainPins p position).ended fun r => { r with drain := none }).onChange
      (s.works.water.position != position) fun s => s.atWorks fun w => w.drainMoved position

/-- The pulse clock reaches 2 s (R133). -/
def execPulseComplete (s : State) : Result :=
  s.takes fun s => s.atWorks Works.completePulse

/-- The confirm clock reaches 5 s (R133). -/
def execConfirmWindowExpiry (s : State) : Result :=
  s.takes fun s => s.atWorks Works.confirmOut

end Sys2Proof.Machine
end

