-- ==== Sys2Proof/Machine/Dispatch.lean ====
section
/-! DEFINITION. One command of the part: an arm for each row of the table, each a direct call of its meaning. -/

namespace Sys2Proof.Machine
open Sys2Proof

def exec (i : Instr) (s : State) : Host.Outcome State Fault Refusal :=
  match i with
  | .ident strapsNow => Sys2Proof.Machine.execIdent strapsNow s
  | .readTable table index count => Sys2Proof.Machine.execReadTable table index count s
  | .readNext => Sys2Proof.Machine.execReadNext s
  | .writeTable table index records => Sys2Proof.Machine.execWriteTable table index records s
  | .writeNext records => Sys2Proof.Machine.execWriteNext records s
  | .storeTable table => Sys2Proof.Machine.execStoreTable table s
  | .readCauses cause => Sys2Proof.Machine.execReadCauses cause s
  | .clearCauses causes => Sys2Proof.Machine.execClearCauses causes s
  | .releaseAttn => Sys2Proof.Machine.execReleaseAttn s
  | .attnRetest => Sys2Proof.Machine.execAttnRetest s
  | .setMask causes => Sys2Proof.Machine.execSetMask causes s
  | .switch output state => Sys2Proof.Machine.execSwitch output state s
  | .setLight channel duty fadeTime => Sys2Proof.Machine.execSetLight channel duty fadeTime s
  | .recallScene scene => Sys2Proof.Machine.execRecallScene scene s
  | .move axis direction => Sys2Proof.Machine.execMove axis direction s
  | .stopMove axis => Sys2Proof.Machine.execStopMove axis s
  | .setClimate mode setpoint => Sys2Proof.Machine.execSetClimate mode setpoint s
  | .resetHeater => Sys2Proof.Machine.execResetHeater s
  | .openDrain => Sys2Proof.Machine.execOpenDrain s
  | .closeDrain => Sys2Proof.Machine.execCloseDrain s
  | .clearFault output cause load => Sys2Proof.Machine.execClearFault output cause load s
  | .markFull => Sys2Proof.Machine.execMarkFull s
  | .sleep => Sys2Proof.Machine.execSleep s
  | .restart => Sys2Proof.Machine.execRestart s
  | .byteReceived byte stopBitGood => Sys2Proof.Machine.execByteReceived byte stopBitGood s
  | .linkGapTimeout => Sys2Proof.Machine.execLinkGapTimeout s
  | .replySent => Sys2Proof.Machine.execReplySent s
  | .supplyFall => Sys2Proof.Machine.execSupplyFall s
  | .supplyRise fellBelowRetention retentionGood pins => Sys2Proof.Machine.execSupplyRise fellBelowRetention retentionGood pins s
  | .storeErase blank => Sys2Proof.Machine.execStoreErase blank s
  | .storeRecordWrite complete => Sys2Proof.Machine.execStoreRecordWrite complete s
  | .storeVerify differs => Sys2Proof.Machine.execStoreVerify differs s
  | .passStart => Sys2Proof.Machine.execPassStart s
  | .windPulse => Sys2Proof.Machine.execWindPulse s
  | .channelSample input => Sys2Proof.Machine.execChannelSample input s
  | .bankPair bv bi => Sys2Proof.Machine.execBankPair bv bi s
  | .restCalibration => Sys2Proof.Machine.execRestCalibration s
  | .fullDetection => Sys2Proof.Machine.execFullDetection s
  | .currentRefresh out milliamps => Sys2Proof.Machine.execCurrentRefresh out milliamps s
  | .overcurrentDwellExpiry out => Sys2Proof.Machine.execOvercurrentDwellExpiry out s
  | .openTimerExpiry out => Sys2Proof.Machine.execOpenTimerExpiry out s
  | .retryExpiry out => Sys2Proof.Machine.execRetryExpiry out s
  | .cleanTimerExpiry out cause => Sys2Proof.Machine.execCleanTimerExpiry out cause s
  | .periodBoundary => Sys2Proof.Machine.execPeriodBoundary s
  | .fadeTick channel => Sys2Proof.Machine.execFadeTick channel s
  | .fadeEnd channel => Sys2Proof.Machine.execFadeEnd channel s
  | .courtesyTimeout => Sys2Proof.Machine.execCourtesyTimeout s
  | .flameStateChange seen => Sys2Proof.Machine.execFlameStateChange seen s
  | .ignitionTimeout => Sys2Proof.Machine.execIgnitionTimeout s
  | .purgeEnd => Sys2Proof.Machine.execPurgeEnd s
  | .pswChange closed => Sys2Proof.Machine.execPswChange closed s
  | .dryRunExpiry => Sys2Proof.Machine.execDryRunExpiry s
  | .runLimitExpiry => Sys2Proof.Machine.execRunLimitExpiry s
  | .frostExpiry => Sys2Proof.Machine.execFrostExpiry s
  | .drainPositionChange position => Sys2Proof.Machine.execDrainPositionChange position s
  | .pulseComplete => Sys2Proof.Machine.execPulseComplete s
  | .confirmWindowExpiry => Sys2Proof.Machine.execConfirmWindowExpiry s
  | .axisSwitchChange switch closed => Sys2Proof.Machine.execAxisSwitchChange switch closed s
  | .hallPulse axis => Sys2Proof.Machine.execHallPulse axis s
  | .travelReached => Sys2Proof.Machine.execTravelReached s
  | .moveOverrun => Sys2Proof.Machine.execMoveOverrun s
  | .stallExpiry => Sys2Proof.Machine.execStallExpiry s
  | .jamExpiry => Sys2Proof.Machine.execJamExpiry s
  | .driveStart => Sys2Proof.Machine.execDriveStart s
  | .entryExpiry axis => Sys2Proof.Machine.execEntryExpiry axis s
  | .windHoldExpiry => Sys2Proof.Machine.execWindHoldExpiry s
  | .ignChange on => Sys2Proof.Machine.execIgnChange on s
  | .dplusChange on => Sys2Proof.Machine.execDplusChange on s
  | .doorChange opened => Sys2Proof.Machine.execDoorChange opened s
  | .silenceExpiry => Sys2Proof.Machine.execSilenceExpiry s

end Sys2Proof.Machine
end

