-- ==== Sys2Proof/Machine/Step.lean ====
section
/-! DEFINITION. The step: the command at the front of the queue, or a tick of the part's clock where none waits (log entry
1). -/

namespace Sys2Proof.Machine
open Sys2Proof

/-- One step: the first waiting command acts on the state with the queue's rest; on an empty queue the part's own clock
moves on by a millisecond (`State.tick`). -/
def step (s : State) : Host.Outcome State Fault Refusal :=
  match s.pending with
  | i :: rest => exec i { s with pending := rest }
  | [] => .next s.tick

/-- A command put at the front of the queue. -/
def State.putFirst (s : State) : Option Instr → State
  | some i => { s with pending := i :: s.pending }
  | none => s

/-- The command that a table's word spells put at the front of the queue; no row of the table gives bits, so no word
spells one (log entry 5). -/
def State.withFetchWord (s : State) (nbits w : Nat) : State := s.putFirst (decodeTableWord nbits w)

end Sys2Proof.Machine
end

