-- ==== Sys2Proof/Safety.lean ====
section
/-! DEFINITION. The words that statements about the part use: when it takes requests, how a request that has been heard
and answered leaves it, when an output or an axis is at rest, and the invariants that every step keeps. -/

namespace Sys2Proof.Machine

/-! ## Requests -/

/-- The part hears and answers requests: its supply is up, it is awake, no RESTART is pending and no notice is on its
way (none ever is between commands: `State.delivered`). -/
def State.listens (s : State) : Bool :=
  s.powered && s.works.vehicle.condition != .dormant && !s.works.vehicle.restarting && s.works.inbox.isEmpty

/-- R168, R182: a good frame for this unit has been heard by a part that is awake: a running silence timer restarts. -/
def State.heard (s : State) : State :=
  { s with works := { s.works with vehicle := { s.works.vehicle with
      silence := s.works.vehicle.silence.map fun _ => 0 } } }

/-- R172, R184, R195: a reply has been built: its SUMMARY is that of the present state, the just-woken mark is clear. -/
def State.answered (s : State) (kind status : Byte) (payload : List Byte) : State :=
  { s with works := { s.works with
      vehicle := { s.works.vehicle with justWoken := false }
      link := { s.works.link with
        sending := some ⟨kind, status, summaryByte s.works s.account.shedLevel, payload⟩ } } }

/-- What a refused request leaves: it is heard and answered, and nothing is applied. -/
def State.refusedWith (s : State) (kind status : Byte) (detail : List Byte) : State :=
  s.heard.answered kind status detail

/-- The supply is up and no notice is on its way: a part that takes events. -/
def State.lives (s : State) : Bool := s.powered && s.works.inbox.isEmpty

/-- Everything outside the works is as it was. -/
def State.worksOnly (s t : State) : Prop :=
  t.pending = s.pending ∧ t.powered = s.powered ∧ t.inputs = s.inputs ∧ t.runs = s.runs ∧ t.scanner = s.scanner
    ∧ t.account = s.account ∧ t.settings = s.settings

/-- The command that a request is, with the pins as they stand (R185 and R76 read pins; the others have none). -/
def commandOf (r : HostRequest) (pins : Inputs) : Instr :=
  match r with
  | .ident => .ident pins.straps
  | .readTable t i c => .readTable t i c
  | .readNext => .readNext
  | .writeTable t i rs => .writeTable t i rs
  | .writeNext rs => .writeNext rs
  | .storeTable t => .storeTable t
  | .readCauses c => .readCauses c
  | .clearCauses cs => .clearCauses cs
  | .releaseAttn => .releaseAttn
  | .setMask cs => .setMask cs
  | .switch o x => .switch o x
  | .setLight c d f => .setLight c d f
  | .recallScene n => .recallScene n
  | .move a d => .move a d
  | .stopMove a => .stopMove a
  | .setClimate m p => .setClimate m p
  | .resetHeater => .resetHeater
  | .openDrain => .openDrain
  | .closeDrain => .closeDrain
  | .clearFault o c => .clearFault o c (getAt o.toNat pins.loads .normal)
  | .markFull => .markFull
  | .sleep => .sleep
  | .restart => .restart

/-- The part after some bytes on the link, each with a good stop bit, one BYTE_RECEIVED after another. -/
def State.hears (s : State) : List Byte → State
  | [] => s
  | b :: rest =>
    match exec (.byteReceived b true) s with
    | .next t => t.hears rest
    | _ => s

/-! ## Outputs and axes at rest -/

/-- The output is off and asked for nothing: no grant, no entry, no demand, no fault state. -/
def Works.resting (w : Works) (o : OutId) : Bool :=
  (w.out o).driven == .off && (w.out o).grant.isNone && (w.out o).demand.isNone && !w.arbiter.knows o

/-- The output stands driven under a grant of the arbiter. -/
def Works.driving (w : Works) (o : OutId) : Bool :=
  (w.out o).driven == .on && (w.out o).grant.isSome && (w.arbiter.grantOf o).isSome

/-- Nothing waits for a grant, so that a release serves nobody. -/
def Works.noneWaits (w : Works) : Bool := w.arbiter.waits.isEmpty

/-! ## Invariants -/

/-- No notice is on its way to an owner. -/
def State.delivered (s : State) : Prop := s.works.inbox = []

/-- R32, R28, section 2.1: the shed level is the larger of the two levels, each of which is one of its own; the held
charge lies within the capacity it is held under, and is 0 while confidence is UNKNOWN. -/
def Account.sound (a : Account) : Prop :=
  a.shedLevel = max a.socLevel a.voltageLevel ∧ a.socLevel ≤ 4
    ∧ (a.voltageLevel = 0 ∨ a.voltageLevel = 3 ∨ a.voltageLevel = 4) ∧ a.heldCapacity = a.bank.capacity
    ∧ a.q ≤ a.qFull ∧ (a.confidence = .unknown → a.q = 0)

/-- R41, R43, R44, R47: the load is within the effective ceiling; an output has at most one record in each list; a NEW
entry's output and a companion hold no grant; a companion has no entry and stands in one entry alone. -/
def Arbiter.sound (a : Arbiter) : Prop :=
  a.load ≤ a.ceiling ∧ (a.grants.map (·.out)).Nodup
    ∧ (a.waits.flatMap fun e => e.out :: (e.companion.map (·.out)).toList).Nodup
    ∧ ∀ e ∈ a.waits, (e.kind = .new → a.grantOf e.out = none)
        ∧ ∀ c, e.companion = some c → e.kind = .new ∧ a.grantOf c.out = none

/-- R65: every output that is ON has its grant and its demand, and the thermal stage is below 3. -/
def Stages.sound (s : Stages) : Prop :=
  ∀ o : OutId, s.outs[o].driven = .on → s.outs[o].grant.isSome ∧ s.outs[o].demand.isSome ∧ s.stage < 3

/-- R106: the Water Controller's copy of the heater state is the heater's state. -/
def Works.heaterKnown (w : Works) : Prop := w.water.heaterCopy = w.climate.heater.phase

/-- R160: the depart-warning line is asserted exactly while the condition last taken is READY or DRIVING and either axis
is other than RETRACTED. -/
def Motion.lineSound (m : Motion) : Prop :=
  m.depart = true ↔ (m.condition = .ready ∨ m.condition = .driving) ∧ (m.awn.state ≠ .retracted ∨ m.step.state ≠ .retracted)

/-- R143, R157, R165: the Motion Queue holds at most one entry per axis, so at most two, and the wind window six flags. -/
def Motion.listsSound (m : Motion) : Prop := (m.queue.map (·.axis)).Nodup ∧ m.window.length = 6

end Sys2Proof.Machine
end

