-- ==== Sys2Proof/Certificates/Slice0/Obligations.lean ====
section
/-! DEFINITION. The statements about the part, for the provers. Each docstring names the rules of spec/ that the statement
formalises; a clause that rests on a choice of the model names its log entry. -/

open Sys2Proof Sys2Proof.Machine

/-! ## The machine and its queue -/

/-- A step with a command at the front of the queue is that command's effect on the state with the queue's rest. -/
def Obligations.StepRunsFrontCommand : Prop :=
  ∀ (c : Instr) (rest : List Instr) (s : State), s.pending = c :: rest →
    step s = exec c { s with pending := rest }

/-- The model's choice (log entry 1): with no command waiting, a step is a millisecond of the part's clock. It moves
nothing but timers, each of them by that millisecond where it runs (R73, R74, R88, R97, R109, R113, R128, R130, R133, R146,
R152, R157, R168, R175), and, every 10 ms, the debounce runs; what falls due in the state after it is the queue. Below the
operating level the part takes no events (R173), and the step idles. -/
def Obligations.StepOnEmptyQueueTicks : Prop :=
  ∀ s : State, s.pending = [] →
    (s.powered = false → step s = .next s) ∧
    (s.powered = true → ∃ t, step s = .next t ∧ t.pending = t.due ∧ t.powered = true ∧ t.inputs = s.inputs
      ∧ t.account = s.account ∧ ((s.works.vehicle.uptime + 1) % 10 ≠ 0 → t.runs = s.runs)
      ∧ t.scanner = { s.scanner with untilPass := s.scanner.untilPass - 1 }
      ∧ t.settings = { s.settings with run := s.settings.run.map fun r => { r with clock := r.clock + 1 } }
      ∧ t.works.arbiter = s.works.arbiter ∧ t.works.inbox = s.works.inbox ∧ t.works.free = s.works.free
      ∧ t.works.link = { s.works.link with gap := s.works.link.gap + 1 }
      ∧ t.works.vehicle = { s.works.vehicle with
          uptime := s.works.vehicle.uptime + 1
          silence := s.works.vehicle.silence.map (· + 1) }
      ∧ (∀ o : OutId, t.works.out o = { s.works.out o with driven := match (s.works.out o).driven with
          | .cutWait (.timing left) => .cutWait (.timing (left - 1))
          | d => d })
      ∧ (∀ (o : OutId) (c : FaultCause), t.works.fault o c = { s.works.fault o c with clean :=
          if (s.works.fault o c).state = .retrying ∧ (s.works.out o).driven = .on then (s.works.fault o c).clean + 1
          else (s.works.fault o c).clean })
      ∧ t.works.stages.thermal = s.works.stages.thermal ∧ t.works.stages.stage = s.works.stages.stage
      ∧ t.works.stages.staged = s.works.stages.staged ∧ t.works.stages.fanDuty = s.works.stages.fanDuty
      ∧ (∀ ch : LightId, t.works.light ch = { s.works.light ch with fade := (s.works.light ch).fade.map fun f =>
          if f.start.isSome then { f with clock := f.clock + 1 } else f })
      ∧ t.works.lights.forced = s.works.lights.forced
      ∧ t.works.lights.courtesy = (match s.works.lights.courtesy with
          | .holding left => .holding (left - 1)
          | c => c)
      ∧ t.works.climate = { s.works.climate with heater := match s.works.climate.heater with
          | .igniting timer => .igniting (timer + 1)
          | .purging p => .purging (if (s.works.out HFAN).driven = .on then { p with clock := p.clock + 1 } else p)
          | h => h }
      ∧ t.works.water = { s.works.water with
          dryTimer := s.works.water.dryTimer.map (· + 1)
          runTimer := s.works.water.runTimer.map (· + 1)
          frost := match s.works.water.frost with
            | .running elapsed => .running (elapsed + 1)
            | f => f
          drain := t.works.water.drain }
      ∧ t.works.water.drain.state = s.works.water.drain.state
      ∧ (∀ p, s.works.water.drain.pulse? = some p → t.works.water.drain.pulse? = some (
          if p.complete then { p with confirm := p.confirm + 1 }
          else if p.started ∧ (s.works.out DRAIN).driven = .on then { p with clock := p.clock + 1, confirm := p.confirm + 1 }
          else p))
      ∧ t.works.motion = { s.works.motion with
          stage := match s.works.motion.stage with
            | .pausing h => .pausing { h with pauseLeft := h.pauseLeft - 1 }
            | .driving h => .driving { h with jamTimer := h.jamTimer + 1 }
            | x => x
          windHold := s.works.motion.windHold.map (· - 1) })

/-- Every command of the table answers a next state from every state, and leaves the queue of waiting commands alone. -/
def Obligations.EveryCommandAnswersAndLeavesTheQueue : Prop :=
  ∀ (c : Instr) (s : State), ∃ t, exec c s = .next t ∧ t.pending = s.pending

/-! ## The supply and the resets -/

/-- R173, first case, and what it leaves alone: at SUPPLY_FALL every output stage is off, what the link was receiving or
sending is lost, and everything that the resets of R38, R83 and R165 keep stays as it was, a running store among it, whose
name the Start Record gives (the model's reading, log entry 7); below the operating level no command but a rise of the supply
moves anything. -/
def Obligations.SupplyFallStopsThePart : Prop :=
  (∀ s : State, s.powered = true → ∃ t, exec .supplyFall s = .next t ∧ t.powered = false
    ∧ (∀ o, (t.works.out o).driven ≠ .on ∧ (t.works.out o).grant = (s.works.out o).grant
        ∧ ((s.works.out o).driven ≠ .on → t.works.out o = s.works.out o))
    ∧ t.works.link = { s.works.link with receiver := .hunting, sending := none, releasing := false }
    ∧ t.pending = s.pending ∧ t.inputs = s.inputs ∧ t.runs = s.runs ∧ t.scanner = s.scanner ∧ t.account = s.account
    ∧ t.settings = s.settings ∧ t.works.arbiter = s.works.arbiter ∧ t.works.lights = s.works.lights
    ∧ t.works.climate = s.works.climate ∧ t.works.water = s.works.water ∧ t.works.motion = s.works.motion
    ∧ t.works.vehicle = s.works.vehicle) ∧
  (∀ (c : Instr) (s : State), s.powered = false → (∀ fell good pins, c ≠ .supplyRise fell good pins) →
    exec c s = .next s)

/-- R173, second case, with R14, R38, R175 and R176: SUPPLY_RISE makes a reset, POWER-ON where the supply fell below the
retention level or the retained state fails its check, BROWN-OUT otherwise. The live tables are those the Settings Store
loads; the scanner starts afresh; the account is UNKNOWN with nothing after POWER-ON, and keeps Q, its levels and its
confidence (CALIBRATED as DRIFTED) over a BROWN-OUT; the condition follows IGN and DPLUS; the Start Record names the kind,
the condition before and the store interrupted. Where the supply is up already there is no rise (the model's choice, log
entry 7). -/
def Obligations.SupplyRiseResets : Prop :=
  ∀ (fell good : Bool) (pins : Inputs) (s : State),
    (s.powered = true → exec (.supplyRise fell good pins) s = .next s) ∧
    (s.powered = false → ∃ t, exec (.supplyRise fell good pins) s = .next t ∧ t.powered = true ∧ t.pending = s.pending
      ∧ t.inputs = pins ∧ t.runs = .none ∧ t.settings = ⟨s.settings.stored, none, none⟩
      ∧ t.works.link.live = s.settings.stored.loaded ∧ t.scanner = .start s.settings.stored.loaded.channel
      ∧ t.works.link.unit = pins.straps ∧ t.works.link.receiver = .hunting ∧ t.works.link.sending = none
      ∧ t.works.link.mask = s.settings.stored.loaded.link.startMask
      ∧ t.works.vehicle.condition = (if pins.ign then (if pins.dplus then .driving else .ready) else .parked)
      ∧ t.works.vehicle.uptime = 0 ∧ t.works.inbox = []
      ∧ t.works.vehicle.startRecord.fromDefaults = s.settings.stored.bad
      ∧ t.works.link.causes.start = some t.works.vehicle.startRecord
      ∧ (fell = true ∨ good = false →
          t.works.vehicle.startRecord.kind = .powerOn ∧ t.works.vehicle.startRecord.before = none
          ∧ t.works.vehicle.startRecord.interrupted = none
          ∧ t.account = .start s.settings.stored.loaded.bank s.settings.stored.loaded.shed)
      ∧ (fell = false → good = true →
          t.works.vehicle.startRecord.kind = .brownOut
          ∧ t.works.vehicle.startRecord.before = some s.works.vehicle.condition
          ∧ t.works.vehicle.startRecord.interrupted = s.settings.run.map (·.table)
          ∧ t.account.q = s.account.q ∧ t.account.heldCapacity = s.account.heldCapacity
          ∧ t.account.throughput = s.account.throughput ∧ t.account.s = s.account.s ∧ t.account.sEff = s.account.sEff
          ∧ t.account.socLevel = s.account.socLevel ∧ t.account.voltageLevel = s.account.voltageLevel
          ∧ t.account.shedLevel = s.account.shedLevel ∧ t.account.restClock = none ∧ t.account.fullClock = none
          ∧ t.account.bankTemp = .invalid ∧ t.account.lowCount = 0 ∧ t.account.cutCount = 0
          ∧ t.account.releaseCount = 0
          ∧ t.account.confidence = (if s.account.confidence = .calibrated then .drifted else s.account.confidence)))

/-- What reset leaves, where the spec gives the value: R14 (Readings INVALID, the pass counter 0, the first pass due in 500
ms), R38 (Q 0, UNKNOWN, levels 0), R61 (empty lists, stage 0), R83 (every output off with demand OFF and no grant, every
Fault Table record CLEAR), R100 (duties 0, no grant, IDLE), R122 (both copies INVALID, no demand, failures 0), R140 (filters
empty, the water copy INVALID, pump IDLE, latches clear), R165 (an empty queue, a clear window, no wind hold), R175 (uptime
0, the Start Record), R194 (HUNTING, START latched). The pins and the blank store are the model's choice (log entry 2). The
state after reset also meets every invariant that a step keeps (the statements below). -/
def Obligations.ResetState : Prop :=
  (∀ ch : Fin 9, State.reset.scanner.channels[ch] = ⟨.invalid, 0, none⟩)
  ∧ State.reset.scanner.passCounter = 0 ∧ State.reset.scanner.untilPass = 500
  ∧ State.reset.account.q = 0 ∧ State.reset.account.confidence = .unknown ∧ State.reset.account.shedLevel = 0
  ∧ State.reset.works.arbiter.grants = [] ∧ State.reset.works.arbiter.waits = [] ∧ State.reset.works.arbiter.stage = 0
  ∧ State.reset.works.arbiter.arrivals = 0
  ∧ (∀ o, (State.reset.works.out o).demand = none ∧ (State.reset.works.out o).grant = none
      ∧ (State.reset.works.out o).driven = .off ∧ (State.reset.works.out o).current = 0)
  ∧ (∀ o c, (State.reset.works.fault o c).state = .clear ∧ (State.reset.works.fault o c).occurrences = 0)
  ∧ (∀ ch, (State.reset.works.light ch).applied = 0 ∧ (State.reset.works.light ch).cover = none
      ∧ (State.reset.works.light ch).stance = .none)
  ∧ State.reset.works.lights.courtesy = .idle
  ∧ State.reset.works.climate.cabin = .invalid ∧ State.reset.works.climate.water = .invalid
  ∧ State.reset.works.climate.heatDemand = false
  ∧ State.reset.works.climate.failures = 0
  ∧ State.reset.works.water.fresh.accepted = none ∧ State.reset.works.water.grey.accepted = none
  ∧ State.reset.works.water.waterCopy = .invalid ∧ State.reset.works.water.pump = .idle
  ∧ State.reset.works.water.dryLatch = false ∧ State.reset.works.water.limitLatch = false
  ∧ State.reset.works.motion.queue = [] ∧ State.reset.works.motion.window = List.replicate 6 false
  ∧ State.reset.works.motion.windHold = none
  ∧ State.reset.works.vehicle.uptime = 0 ∧ State.reset.works.link.receiver = .hunting
  ∧ State.reset.works.link.causes = { CauseSet.empty with start := some State.reset.works.vehicle.startRecord }
  ∧ State.reset.pending = []
  ∧ State.reset.delivered ∧ State.reset.account.sound ∧ State.reset.works.arbiter.sound ∧ State.reset.works.stages.sound
  ∧ State.reset.works.heaterKnown ∧ State.reset.works.motion.lineSound ∧ State.reset.works.motion.listsSound

/-! ## The link: requests -/

/-- R185: IDENT is answered OK with identity, revision and unit address, and a flag for straps that now read otherwise;
nothing else moves but what hearing and answering a frame moves. The unit address is that of the straps at the reset. -/
def Obligations.IdentReply : Prop :=
  (∀ (straps : BitVec 2) (s : State), s.listens = true →
    exec (.ident straps) s = .next (({ s with inputs := { s.inputs with straps := straps } }).heard.answered 1 0x00
      [0x00, 0x48, 0x01, BitVec.ofNat 8 s.works.link.unit.toNat, if straps = s.works.link.unit then 0 else 1])) ∧
  (∀ (kind : ResetKind) (pins : Inputs) (s : State), (s.resetAs kind pins).works.link.unit = pins.straps)

/-- R186, R195: READ-TABLE and READ-NEXT reply with the table's records from an index on, as many whole ones as the count,
the table's end and 240 bytes allow, and leave the read cursor behind the last of them. A read moves nothing but the read
cursor. The state is one whose Motion Queue and wind window are as R143 and R157 have them (a step keeps them so:
StepKeepsLineCopyAndLists). -/
def Obligations.TableReads : Prop :=
  ∀ (table index : Nat) (count : Option Byte) (c : Instr) (s : State), s.listens = true → s.works.motion.listsSound →
    (c = .readTable (BitVec.ofNat 8 table) (BitVec.ofNat 8 index) (count.getD 0) ∧ count.isSome ∧ table ≤ 18 ∧ index < 256
      ∨ c = .readNext ∧ count = none ∧ s.works.link.readCursor = ⟨table, index⟩ ∧ table ≤ 18) →
    ∃ n payload, exec c s = .next (({ s with works := { s.works with link := { s.works.link with
          readCursor := ⟨table, index + n⟩ } } }).heard.answered (if count.isSome then 2 else 3) 0x00 payload)
      ∧ payload = u8 table ++ u8 index ++ u8 n ++ flag (decide ((s.heard.tableRecords table).length ≤ index + n))
          ++ s.heard.tableHeader table ++ (((s.heard.tableRecords table).drop index).take n).flatten
      ∧ payload.length ≤ 240
      ∧ n ≤ (s.heard.tableRecords table).length - index ∧ (∀ k, count = some k → n ≤ k.toNat)
      ∧ (n = (s.heard.tableRecords table).length - index ∨ (∃ k, count = some k ∧ n = k.toNat)
          ∨ ∃ r, (s.heard.tableRecords table)[index + n]? = some r ∧ 240 < payload.length + r.length)

/-- R33, R34, R36, R59, R187: a WRITE-TABLE of every record of BANK-SETUP or of SHED-SETUP. Judged after clamping: a bad
chemistry code, voltage points that do not rise, thresholds that do not fall, a Vcut not below Vlow and ceilings that rise
are refused ILLEGAL at the first such record; a chemistry change with no rest period running, and a write to a table being
stored, are refused BUSY. Otherwise the live table takes the clamped values, a chemistry change takes the new Vlow and Vcut
into SHED-SETUP, the reply is CLAMPED where a clamp moved a value and OK otherwise, and no block adopts anything yet. A write
of the chemistry alone takes the new chemistry's efficiency, Vfull and points. The record named for a Vcut not below Vlow,
for thresholds and ceilings out of order and for points that do not rise (the later of the first such pair, given or not),
and a missing rest period named before a running store, are the model's choice (log entry 11). -/
def Obligations.BankAndShedSetupWrites : Prop :=
  ∀ s : State, s.listens = true →
    let live := s.works.link.live
    let storing := s.settings.run.map fun r => r.table.val
    let changes (chemistry : Chemistry) : Prop := chemistry ≠ live.bank.chemistry
    let shed (chemistry : Chemistry) : ShedSetup := if chemistry = live.bank.chemistry then live.shed else { live.shed with
      vLow := match chemistry with | .lead => 11600 | .lithium => 12400
      vCut := match chemistry with | .lead => 11000 | .lithium => 12000 }
    let taken (table n : Nat) (tables : Tables) (moved : Bool) : State :=
      ({ s with works := { s.works with link := { s.works.link with
        live := tables
        writeCursor := ⟨table, n⟩ } } }).heard.answered 4 (if moved then 0x01 else 0x00) (u8 table ++ u8 n)
    (∀ (code capacity efficiency vFull rest drift : BitVec 16) (points : Vector (BitVec 16) 11) (moved : Bool),
      let c := Instr.writeTable 0 0 (bytesOf code ++ bytesOf capacity ++ bytesOf efficiency ++ bytesOf vFull ++ bytesOf rest
        ++ bytesOf drift ++ points.toList.flatMap bytesOf)
      let point (k : Nat) : Nat := min 20000 (points.toList.getD k 0).toNat
      let setup (chemistry : Chemistry) : BankSetup := ⟨chemistry, clamp 20 1000 capacity.toNat,
        clamp 800 1000 efficiency.toNat, clamp 12000 16000 vFull.toNat, clamp 30 480 rest.toNat, clamp 1 10 drift.toNat,
        points.map fun p => min 20000 p.toNat⟩
      (2 ≤ code.toNat → exec c s = .next (s.refusedWith 4 0x83 [0, 0])) ∧
      (∀ chemistry : Chemistry, chemistry.code = code.toNat →
        (∀ k : Fin 10, (∀ j : Fin 10, j < k → point j.val < point (j.val + 1)) → point (k.val + 1) ≤ point k.val →
          exec c s = .next (s.refusedWith 4 0x83 (u8 (7 + k.val) ++ u8 0))) ∧
        ((∀ k : Fin 10, point k.val < point (k.val + 1)) →
          (changes chemistry → s.account.restClock = none → exec c s = .next (s.refusedWith 4 0x84 [1])) ∧
          (¬changes chemistry ∨ s.account.restClock.isSome → storing = some 0 ∨ (changes chemistry ∧ storing = some 1) →
            exec c s = .next (s.refusedWith 4 0x84 [2])) ∧
          (¬changes chemistry ∨ s.account.restClock.isSome → storing ≠ some 0 → (changes chemistry → storing ≠ some 1) →
            (moved = true ↔ (setup chemistry).capacity ≠ capacity.toNat ∨ (setup chemistry).efficiency ≠ efficiency.toNat
              ∨ (setup chemistry).vFull ≠ vFull.toNat ∨ (setup chemistry).restMinutes ≠ rest.toNat
              ∨ (setup chemistry).driftCycles ≠ drift.toNat ∨ ¬∀ k : Fin 11, (points[k]).toNat ≤ 20000) →
            exec c s = .next (taken 0 17 { live with bank := setup chemistry, shed := shed chemistry } moved))))) ∧
    (∀ chemistry : Chemistry, changes chemistry → s.account.restClock.isSome → storing ≠ some 0 → storing ≠ some 1 →
      exec (.writeTable 0 0 [0, BitVec.ofNat 8 chemistry.code]) s = .next (taken 0 1 { live with
        bank := { live.bank with
          chemistry := chemistry
          efficiency := match chemistry with | .lead => 900 | .lithium => 980
          vFull := match chemistry with | .lead => 14200 | .lithium => 13900
          points := defaultPoints chemistry }
        shed := shed chemistry } false)) ∧
    (∀ (t : Vector (BitVec 16) 4) (h low cut : BitVec 16) (ceilings : Vector (BitVec 16) 5) (age : BitVec 16) (moved : Bool),
      let c := Instr.writeTable 1 0 (t.toList.flatMap bytesOf ++ bytesOf h ++ bytesOf low ++ bytesOf cut
        ++ ceilings.toList.flatMap bytesOf ++ bytesOf age)
      let threshold (k : Nat) : Nat := clamp 1 999 (t.toList.getD k 0).toNat
      let ceiling (k : Nat) : Nat := min 60000 (ceilings.toList.getD k 0).toNat
      let setup : ShedSetup := ⟨threshold 0, threshold 1, threshold 2, threshold 3, min 100 h.toNat,
        clamp 9000 16000 low.toNat, clamp 9000 16000 cut.toNat, ceilings.map fun x => min 60000 x.toNat,
        clamp 10 600 age.toNat⟩
      let falls : Prop := ∀ k : Fin 3, threshold (k.val + 1) < threshold k.val
      (∀ k : Fin 3, (∀ j : Fin 3, j < k → threshold (j.val + 1) < threshold j.val) →
        threshold k.val ≤ threshold (k.val + 1) → exec c s = .next (s.refusedWith 4 0x83 (u8 (1 + k.val) ++ u8 0))) ∧
      (falls → setup.vLow ≤ setup.vCut → exec c s = .next (s.refusedWith 4 0x83 [6, 0])) ∧
      (falls → setup.vCut < setup.vLow →
        (∀ k : Fin 4, (∀ j : Fin 4, j < k → ceiling (j.val + 1) ≤ ceiling j.val) → ceiling k.val < ceiling (k.val + 1) →
          exec c s = .next (s.refusedWith 4 0x83 (u8 (8 + k.val) ++ u8 0))) ∧
        ((∀ k : Fin 4, ceiling (k.val + 1) ≤ ceiling k.val) →
          (storing = some 1 → exec c s = .next (s.refusedWith 4 0x84 [0])) ∧
          (storing ≠ some 1 →
            (moved = true ↔ (¬∀ k : Fin 4, threshold k.val = (t[k]).toNat) ∨ 100 < h.toNat ∨ setup.vLow ≠ low.toNat
              ∨ setup.vCut ≠ cut.toNat ∨ (¬∀ k : Fin 5, (ceilings[k]).toNat ≤ 60000) ∨ setup.barrierAge ≠ age.toNat) →
            exec c s = .next (taken 1 13 { live with shed := setup } moved)))))

/-- R119, R138, R162, R188, R187: writes of every record of CLIMATE-SETUP, WATER-SETUP (also by WRITE-NEXT from the write
cursor), MOTION-SETUP and LINK-SETUP. A bad start mode or auto-step code and a mask naming no cause are refused ILLEGAL, a
write to a table being stored BUSY, as is a travel or stall threshold given other than the adopted one for the axis of a
held move. Otherwise the live table takes the clamped values, the reply is CLAMPED where a clamp moved one, the write cursor
stands behind the last record. Only MOTION-SETUP is adopted at once, with no move held: an EXTENDED axis stands at its new
travel, a PARTIAL one at or beyond it becomes UNKNOWN. -/
def Obligations.ClimateWaterMotionAndLinkSetupWrites : Prop :=
  ∀ s : State, s.listens = true →
    let live := s.works.link.live
    let storing := s.settings.run.map fun r => r.table.val
    let linked (table n : Nat) (tables : Tables) : State := { s with works := { s.works with link := { s.works.link with
      live := tables
      writeCursor := ⟨table, n⟩ } } }
    let taken (table n : Nat) (tables : Tables) (kind : Byte) (moved : Bool) : State :=
      (linked table n tables).heard.answered kind (if moved then 0x01 else 0x00) (u8 table ++ u8 n)
    (∀ (code setpoint eco hysteresis floor gain : BitVec 16),
      let c := Instr.writeTable 4 0 (bytesOf code ++ bytesOf setpoint ++ bytesOf eco ++ bytesOf hysteresis ++ bytesOf floor
        ++ bytesOf gain)
      (4 ≤ code.toNat → exec c s = .next (s.refusedWith 4 0x83 [0, 0])) ∧
      (∀ mode : ClimateMode, mode.code = code.toNat →
        let setup : ClimateSetup := ⟨mode, clamp 50 300 setpoint.toNat, min 100 eco.toNat, clamp 2 20 hysteresis.toNat,
          clamp 200 500 floor.toNat, clamp 1 20 gain.toNat⟩
        (storing = some 4 → exec c s = .next (s.refusedWith 4 0x84 [0])) ∧
        (storing ≠ some 4 → exec c s = .next (taken 4 6 { live with climate := setup } 4 (decide (setup ≠
          ⟨mode, setpoint.toNat, eco.toNat, hysteresis.toNat, floor.toNat, gain.toNat⟩)))))) ∧
    (∀ (a b d : BitVec 16) (c : Instr) (kind : Byte),
      (c = .writeTable 5 0 (bytesOf a ++ bytesOf b ++ bytesOf d) ∧ kind = 4
        ∨ c = .writeNext (bytesOf a ++ bytesOf b ++ bytesOf d) ∧ kind = 5 ∧ s.works.link.writeCursor = ⟨5, 0⟩) →
      let setup : WaterSetup := ⟨clamp 10 60 a.toNat, clamp 30 600 b.toNat, clamp 30 900 d.toNat⟩
      (storing = some 5 → exec c s = .next (s.refusedWith kind 0x84 [0])) ∧
      (storing ≠ some 5 → exec c s = .next (taken 5 3 { live with water := setup } kind
        (decide (setup ≠ ⟨a.toNat, b.toNat, d.toNat⟩))))) ∧
    (∀ (awnTravel stepTravel awnStall stepStall auto limit scale : BitVec 16),
      let c := Instr.writeTable 6 0 (bytesOf awnTravel ++ bytesOf stepTravel ++ bytesOf awnStall ++ bytesOf stepStall
        ++ bytesOf auto ++ bytesOf limit ++ bytesOf scale)
      let m := s.works.motion
      let setup : MotionSetup := ⟨clamp 50 4000 awnTravel.toNat, clamp 20 1000 stepTravel.toNat,
        clamp 1000 20000 awnStall.toNat, clamp 1000 20000 stepStall.toNat, decide (auto.toNat = 0), clamp 20 300 limit.toNat,
        clamp 1 1000 scale.toNat⟩
      let moved : Bool := decide (setup ≠ ⟨awnTravel.toNat, stepTravel.toNat, awnStall.toNat, stepStall.toNat,
        decide (auto.toNat = 0), limit.toNat, scale.toNat⟩)
      let same (x : Axis) : Prop := (if x = .awn then awnTravel else stepTravel).toNat = m.adopted.travel x
        ∧ (if x = .awn then awnStall else stepStall).toNat = m.adopted.stall x
      (2 ≤ auto.toNat → exec c s = .next (s.refusedWith 4 0x83 [4, 0])) ∧
      (auto.toNat ≤ 1 →
        (storing = some 6 → exec c s = .next (s.refusedWith 4 0x84 [0])) ∧
        (∀ h, m.stage.move? = some h → ¬same h.entry.axis → exec c s = .next (s.refusedWith 4 0x84 [0])) ∧
        (∀ h, m.stage.move? = some h → same h.entry.axis → storing ≠ some 6 →
          exec c s = .next (taken 6 7 { live with motion := setup } 4 moved)) ∧
        (m.stage.move? = none → storing ≠ some 6 → ∃ t, exec c s = .next t
          ∧ t.works.link.live = { live with motion := setup } ∧ t.works.link.writeCursor = ⟨6, 7⟩
          ∧ t.works.motion.adopted = setup ∧ t.works.motion.stage = m.stage ∧ t.works.motion.queue = m.queue
          ∧ (∀ x : Axis, t.works.motion.axis x =
              if setup.travel x = m.adopted.travel x then m.axis x
              else if (m.axis x).state = .extended then { m.axis x with position := some (setup.travel x) }
              else if (m.axis x).state = .part ∧ (∃ p, (m.axis x).position = some p ∧ setup.travel x ≤ p) then
                { m.axis x with state := .unknown, position := none }
              else m.axis x)
          ∧ (∃ summary, t.works.link.sending = some ⟨4, if moved then 0x01 else 0x00, summary, [6, 7]⟩)
          ∧ s.worksOnly t ∧ t.works.arbiter = s.works.arbiter ∧ t.works.stages = s.works.stages
          ∧ t.works.lights = s.works.lights ∧ t.works.climate = s.works.climate ∧ t.works.water = s.works.water))) ∧
    (∀ silence mask : BitVec 16,
      let c := Instr.writeTable 8 0 (bytesOf silence ++ bytesOf mask)
      let minutes := if silence.toNat = 0 then 0 else clamp 5 120 silence.toNat
      (mask &&& ~~~0x3FFF#16 ≠ 0 → exec c s = .next (s.refusedWith 4 0x83 [1, 0])) ∧
      (mask &&& ~~~0x3FFF#16 = 0 →
        (storing = some 8 → exec c s = .next (s.refusedWith 4 0x84 [0])) ∧
        (storing ≠ some 8 → exec c s =
          .next (taken 8 2 { live with link := ⟨minutes, mask⟩ } 4 (decide (minutes ≠ silence.toNat))))))

/-- R7, R63, R95, R187, R199: a write of one record of LOAD-TABLE, SCENES or CHANNEL-SETUP. A class outside 0 to 3, one for
MOTOR or one other than 0 for DRAIN, a SHORT mode that does not cut, a DISABLED BV or BI and a minimum above its maximum
(after clamping, named at field 1 by the model's choice, log entry 11) are refused ILLEGAL with record and field; a table
being stored is refused BUSY. Otherwise the record's magnitudes are clamped into the live table, an absent field of
LOAD-TABLE keeping the live one, the reply is CLAMPED or OK, and no block adopts anything. -/
def Obligations.LoadSceneAndChannelWrites : Prop :=
  ∀ s : State, s.listens = true →
    let live := s.works.link.live
    let storing := s.settings.run.map fun r => r.table.val
    let taken (table n : Nat) (tables : Tables) (moved : Bool) : State :=
      ({ s with works := { s.works with link := { s.works.link with
        live := tables
        writeCursor := ⟨table, n⟩ } } }).heard.answered 4 (if moved then 0x01 else 0x00) (u8 table ++ u8 n)
    (∀ (o : OutId) (r : LoadRecord), r.rated < 65536 → r.trip < 65536 → r.dwell < 65536 → (∀ c, r.cls = some c → c < 256) →
      (∀ d, r.floorDuty = some d → o.val < 6 ∧ d < 65536) →
      (∀ x, r.openThreshold = some x → o ∉ [HFAN, HBRN, MOTOR, AUX] ∧ x < 65536) →
      (r.openMode.isSome → o ∉ [HFAN, HBRN, MOTOR, AUX]) →
      let c := Instr.writeTable 2 (BitVec.ofNat 8 o.val) r.bytes
      let l := live.load[o]
      let fits (k : Nat) : Prop := k ≤ 3 ∧ o ≠ MOTOR ∧ (o = DRAIN → k = 0)
      let cuts : Prop := r.shortMode ≠ .report ∧ r.shortMode ≠ .ignore
      let taken' : LoadRecord := { r with
        rated := min 20000 r.rated
        cls := r.cls.or l.cls
        floorDuty := (r.floorDuty.map (clamp 50 500)).or l.floorDuty
        trip := clamp 100 20000 r.trip
        dwell := clamp 10 2000 r.dwell
        openThreshold := (r.openThreshold.map (min 2000)).or l.openThreshold
        openMode := r.openMode.or l.openMode }
      (∀ k, r.cls = some k → ¬fits k → exec c s = .next (s.refusedWith 4 0x83 (u8 o.val ++ u8 1))) ∧
      ((∀ k, r.cls = some k → fits k) → ¬cuts → exec c s = .next (s.refusedWith 4 0x83 (u8 o.val ++ u8 7))) ∧
      ((∀ k, r.cls = some k → fits k) → cuts →
        (storing = some 2 → exec c s = .next (s.refusedWith 4 0x84 [0])) ∧
        (storing ≠ some 2 → exec c s = .next (taken 2 (o.val + 1) { live with load := live.load.set o taken' }
          (decide (taken'.rated ≠ r.rated ∨ taken'.trip ≠ r.trip ∨ taken'.dwell ≠ r.dwell
            ∨ r.floorDuty.map (clamp 50 500) ≠ r.floorDuty ∨ r.openThreshold.map (min 2000) ≠ r.openThreshold)))))) ∧
    (∀ (n : Fin 8) (scene : Scene), scene.fadeTime < 256 → (∀ (ch : LightId) d, scene.duties[ch] = some d → d < 65536) →
      let c := Instr.writeTable 3 (BitVec.ofNat 8 n.val) scene.bytes
      let duties := scene.duties.map fun d => d.map (min 1000)
      (storing = some 3 → exec c s = .next (s.refusedWith 4 0x84 [0])) ∧
      (storing ≠ some 3 → exec c s = .next (taken 3 (n.val + 1) { live with scenes := { live.scenes with
        scenes := live.scenes.scenes.set n ⟨duties, scene.fadeTime⟩ } } (decide (duties ≠ scene.duties))))) ∧
    (∀ duty time : BitVec 16,
      let c := Instr.writeTable 3 8 (bytesOf duty ++ bytesOf time ++ List.replicate 15 0)
      (storing = some 3 → exec c s = .next (s.refusedWith 4 0x84 [0])) ∧
      (storing ≠ some 3 → exec c s = .next (taken 3 9 { live with scenes := { live.scenes with
        courtesyDuty := min 1000 duty.toNat
        courtesyTime := clamp 10 600 time.toNat } }
        (decide (1000 < duty.toNat ∨ time.toNat < 10 ∨ 600 < time.toNat))))) ∧
    (∀ (ch : Fin 9) (enable hold : Byte) (low high : BitVec 32),
      let c := Instr.writeTable 7 (BitVec.ofNat 8 ch.val) (enable :: s32 low.toInt ++ s32 high.toInt ++ [hold])
      let range : Int × Int := [(0, 20000), (-30000, 30000), (-550, 1500), (-550, 1500), (-550, 1500), (-550, 1750), (0, 4),
        (0, 2), (0, 65535)].getD ch.val (0, 0)
      let within (x : Int) : Int := max range.1 (min range.2 x)
      let r : ChannelRecord := ⟨decide (enable = 0), within low.toInt, within high.toInt, clamp 1 60 hold.toNat⟩
      (2 ≤ enable.toNat ∨ (enable = 1 ∧ ch.val < 2) → exec c s = .next (s.refusedWith 4 0x83 (u8 ch.val ++ u8 0))) ∧
      (enable = 0 ∨ (enable = 1 ∧ 2 ≤ ch.val) → r.maximum < r.minimum →
        exec c s = .next (s.refusedWith 4 0x83 (u8 ch.val ++ u8 1))) ∧
      (enable = 0 ∨ (enable = 1 ∧ 2 ≤ ch.val) → r.minimum ≤ r.maximum →
        (storing = some 7 → exec c s = .next (s.refusedWith 4 0x84 [0])) ∧
        (storing ≠ some 7 → exec c s = .next (taken 7 (ch.val + 1) { live with channel := live.channel.set ch r }
          (decide (r.minimum ≠ low.toInt ∨ r.maximum ≠ high.toInt ∨ r.holdPasses ≠ hold.toNat))))))

/-- R183, R187, R189, R197, R198 (and the refusals that R94, R86, R117, R118, R135, R136, R154, R155, R170, R177 and R191
name): a request naming a code outside its set is refused ILLEGAL with the field; a write to a status table READ-ONLY, and
BAD-LENGTH with no record (what a length that no record fits is, is the model's choice, log entry 11); a SWITCH of another
owner's output OWNED. On the owner's own conditions: MOVE and STOP-MOVE with an AUTO RETRACT of the axis in hand; an EXTEND
of an UNKNOWN axis, in READY or DRIVING, or of AWN under the wind hold; OPEN-DRAIN while closing or with DRAIN LATCHED;
CLOSE-DRAIN in another state, with cold or unknown water, or with DRAIN LATCHED; RESET-HEATER with an output LATCHED; SLEEP
outside PARKED, and at each failing item of the Dormant entry test (item 5 for a fade that still waits for its start too, the
model's reading, log entry 23). The reply carries the detail and nothing is applied. Which operand of a request without
records is field 0, and a reason of 0 where no chapter names one, are the model's reading (log entry 17). -/
def Obligations.RefusedRequestsApplyNothing : Prop :=
  ∀ s : State, s.listens = true →
    let m := s.works.motion
    let w := s.works.water
    (∀ t i n : Byte, 18 < t.toNat → exec (.readTable t i n) s = .next (s.refusedWith 2 0x83 [0xFF, 0]))
    ∧ (∀ (t i : Byte) (rs : List Byte), 18 < t.toNat → exec (.writeTable t i rs) s = .next (s.refusedWith 4 0x83 [0xFF, 0]))
    ∧ (∀ (t i : Byte) (rs : List Byte), 9 ≤ t.toNat → t.toNat ≤ 18 → rs ≠ [] →
        exec (.writeTable t i rs) s = .next (s.refusedWith 4 0x87 []))
    ∧ (∀ t i : Byte, t.toNat ≤ 18 → exec (.writeTable t i []) s = .next (s.refusedWith 4 0x82 []))
    ∧ (exec (.writeNext []) s = .next (s.refusedWith 5 (if s.works.link.writeCursor.table ≤ 18 then 0x82 else 0x83)
        (if s.works.link.writeCursor.table ≤ 18 then [] else [0xFF, 0])))
    ∧ (∀ t : Byte, 9 ≤ t.toNat → exec (.storeTable t) s = .next (s.refusedWith 6 0x83 [0xFF, 0]))
    ∧ (∀ k : Byte, 14 ≤ k.toNat → exec (.readCauses (some k)) s = .next (s.refusedWith 7 0x83 [0xFF, 0]))
    ∧ (∀ o x : Byte, o.toNat ≤ 10 → exec (.switch o x) s = .next (s.refusedWith 11 0x88 []))
    ∧ (∀ o x : Byte, 11 < o.toNat → exec (.switch o x) s = .next (s.refusedWith 11 0x83 [0xFF, 0]))
    ∧ (∀ x : Byte, 1 < x.toNat → exec (.switch 11 x) s = .next (s.refusedWith 11 0x83 [0xFF, 1]))
    ∧ (∀ (ch : Byte) (d : BitVec 16) (f : Byte), 6 ≤ ch.toNat →
        exec (.setLight ch d f) s = .next (s.refusedWith 12 0x83 [0xFF, 0]))
    ∧ (∀ n : Byte, 8 ≤ n.toNat → exec (.recallScene n) s = .next (s.refusedWith 13 0x83 [0xFF, 0]))
    ∧ (∀ a d : Byte, 2 ≤ a.toNat → exec (.move a d) s = .next (s.refusedWith 14 0x83 [0xFF, 0]))
    ∧ (∀ a d : Byte, a.toNat ≤ 1 → 2 ≤ d.toNat → exec (.move a d) s = .next (s.refusedWith 14 0x83 [0xFF, 1]))
    ∧ (∀ a : Byte, 2 ≤ a.toNat → exec (.stopMove a) s = .next (s.refusedWith 15 0x83 [0xFF, 0]))
    ∧ (∀ (k : Byte) (p : Option (BitVec 16)), 4 ≤ k.toNat →
        exec (.setClimate k p) s = .next (s.refusedWith 16 0x83 [0xFF, 0]))
    ∧ (∀ x : Axis, m.autoRetract x = true →
      (∀ d : Direction, exec (.move (BitVec.ofNat 8 (axisIndex x)) (BitVec.ofNat 8 (directionCode d))) s =
        .next (s.refusedWith 14 0x85 [1]))
      ∧ exec (.stopMove (BitVec.ofNat 8 (axisIndex x))) s = .next (s.refusedWith 15 0x85 [0]))
    ∧ (∀ x : Axis, m.autoRetract x = false →
      ((m.axis x).state = .unknown →
        exec (.move (BitVec.ofNat 8 (axisIndex x)) 0) s = .next (s.refusedWith 14 0x85 [2]))
      ∧ ((m.axis x).state ≠ .unknown → s.works.vehicle.condition ≠ .parked →
        exec (.move (BitVec.ofNat 8 (axisIndex x)) 0) s = .next (s.refusedWith 14 0x85 [3]))
      ∧ (x = .awn → (m.axis x).state ≠ .unknown → s.works.vehicle.condition = .parked → m.windHold.isSome →
        exec (.move 0 0) s = .next (s.refusedWith 14 0x85 [4])))
    ∧ (∀ p, w.drain = .closing p → exec .openDrain s = .next (s.refusedWith 18 0x84 [0]))
    ∧ (w.drain = .closed ∨ w.drain = .fault → (s.works.out DRAIN).driven = .latched →
        exec .openDrain s = .next (s.refusedWith 18 0x85 [0]))
    ∧ (w.drain ≠ .opened → w.drain ≠ .fault → exec .closeDrain s = .next (s.refusedWith 19 0x85 [1]))
    ∧ (w.drain = .opened ∨ w.drain = .fault → (∀ t, w.waterCopy.usable = some t → t < 70) →
        exec .closeDrain s = .next (s.refusedWith 19 0x85 [2]))
    ∧ (w.drain = .opened ∨ w.drain = .fault → (∃ t, w.waterCopy.usable = some t ∧ 70 ≤ t) →
        (s.works.out DRAIN).driven = .latched → exec .closeDrain s = .next (s.refusedWith 19 0x85 [3]))
    ∧ (∀ reason, s.works.climate.heater = .lockout reason →
        (s.works.out HBRN).driven = .latched ∨ (s.works.out HFAN).driven = .latched →
        exec .resetHeater s = .next (s.refusedWith 17 0x86 []))
    ∧ (s.works.vehicle.condition ≠ .parked → exec .sleep s = .next (s.refusedWith 22 0x85 [0]))
    ∧ (s.works.vehicle.condition = .parked →
        let item1 : Prop := ∀ r ∈ s.works.arbiter.grants, r.out = DRAIN
        let item2 : Prop := m.queue = [] ∧ m.stage.move? = none
        let item3 : Prop := s.works.climate.heater = .off ∨ ∃ reason, s.works.climate.heater = .lockout reason
        let item4 : Prop := w.pump ≠ .running
        let item5 : Prop := ∀ ch : LightId, (s.works.light ch).fade = none
        (¬item1 → exec .sleep s = .next (s.refusedWith 22 0x84 [1]))
        ∧ (item1 → ¬item2 → exec .sleep s = .next (s.refusedWith 22 0x84 [2]))
        ∧ (item1 → item2 → ¬item3 → exec .sleep s = .next (s.refusedWith 22 0x84 [3]))
        ∧ (item1 → item2 → item3 → ¬item4 → exec .sleep s = .next (s.refusedWith 22 0x84 [4]))
        ∧ (item1 → item2 → item3 → item4 → ¬item5 → exec .sleep s = .next (s.refusedWith 22 0x84 [5])))

/-- R177, R178: STORE-TABLE of a setup table while no store runs begins the store of the live table as it stands and is
answered OK; while one runs it is refused BUSY. An erase that leaves the copy blank goes on to the write of record 0; a
completed record write goes on to the next record, after the last one to the verify; a verify that agrees writes the check
and ends OK with the stored records those taken. Each failure ends the store FAIL with its phase and record, the check
unwritten. An end posts STORE and returns the store to IDLE. Every other table's stored copy is left alone throughout. That
the stored copy's check reads bad from the taking on, and what a reset finds of its records meanwhile, is the model's reading
(log entry 24). That each store phase acts when its command comes, the 10 ms of a phase not asked of its clock, is the
model's choice (log entry 10). -/
def Obligations.StorePhases : Prop :=
  (∀ (table : SetupId) (s : State), s.listens = true →
    (s.settings.run = none → let c := s.settings.stored
      ∃ t, exec (.storeTable (BitVec.ofNat 8 table.val)) s = .next t
        ∧ t.settings = ⟨match table.val with
            | 0 => { c with bank := { c.bank with good := false, written := 0 } }
            | 1 => { c with shed := { c.shed with good := false, written := 0 } }
            | 2 => { c with load := { c.load with good := false, written := 0 } }
            | 3 => { c with scenes := { c.scenes with good := false, written := 0 } }
            | 4 => { c with climate := { c.climate with good := false, written := 0 } }
            | 5 => { c with water := { c.water with good := false, written := 0 } }
            | 6 => { c with motion := { c.motion with good := false, written := 0 } }
            | 7 => { c with channel := { c.channel with good := false, written := 0 } }
            | _ => { c with link := { c.link with good := false, written := 0 } }, some ⟨table, .erase, 0, 0, s.works.link.live⟩,
            s.settings.last⟩
        ∧ t.settings.stored.bad.getLsbD table.val = true
        ∧ (∀ i : SetupId, i ≠ table → t.settings.stored.bad.getLsbD i.val = s.settings.stored.bad.getLsbD i.val)
        ∧ { t with settings := s.settings } = s.heard.answered 6 0x00 []) ∧
    (s.settings.run.isSome → exec (.storeTable (BitVec.ofNat 8 table.val)) s = .next (s.refusedWith 6 0x84 [0]))) ∧
  (∀ (r : StoreRun) (s : State), s.powered = true → s.settings.run = some r → let c := s.settings.stored
    (r.phase = .erase → ∀ blank, exec (.storeErase blank) s = .next (
      if blank then { s with settings := { s.settings with run := some { r with phase := .write, record := 0, clock := 0 } } }
      else { s with settings := ⟨c, none, some ⟨r.table, false, some .erase, none⟩⟩,
                    works := s.works.postStore ⟨r.table, false, some .erase, none⟩ })) ∧
    (r.phase = .write →
      exec (.storeRecordWrite true) s = .next { s with settings := ⟨match r.table.val with
          | 0 => { c with bank := { c.bank with image := r.copy.bank, written := r.record + 1 } }
          | 1 => { c with shed := { c.shed with image := r.copy.shed, written := r.record + 1 } }
          | 2 => { c with load := { c.load with image := r.copy.load, written := r.record + 1 } }
          | 3 => { c with scenes := { c.scenes with image := r.copy.scenes, written := r.record + 1 } }
          | 4 => { c with climate := { c.climate with image := r.copy.climate, written := r.record + 1 } }
          | 5 => { c with water := { c.water with image := r.copy.water, written := r.record + 1 } }
          | 6 => { c with motion := { c.motion with image := r.copy.motion, written := r.record + 1 } }
          | 7 => { c with channel := { c.channel with image := r.copy.channel, written := r.record + 1 } }
          | _ => { c with link := { c.link with image := r.copy.link, written := r.record + 1 } }, some { r with
            record := r.record + 1
            clock := 0
            phase := if [17, 13, 12, 9, 6, 3, 7, 9, 2].getD r.table.val 0 ≤ r.record + 1 then .verify else .write },
          s.settings.last⟩ }
      ∧ exec (.storeRecordWrite false) s = .next
          { s with settings := ⟨c, none, some ⟨r.table, false, some .write, some r.record⟩⟩,
                   works := s.works.postStore ⟨r.table, false, some .write, some r.record⟩ }) ∧
    (r.phase = .verify →
      exec (.storeVerify none) s = .next { s with
        settings := ⟨match r.table.val with
          | 0 => { c with bank := ⟨r.copy.bank, r.record, true⟩ }
          | 1 => { c with shed := ⟨r.copy.shed, r.record, true⟩ }
          | 2 => { c with load := ⟨r.copy.load, r.record, true⟩ }
          | 3 => { c with scenes := ⟨r.copy.scenes, r.record, true⟩ }
          | 4 => { c with climate := ⟨r.copy.climate, r.record, true⟩ }
          | 5 => { c with water := ⟨r.copy.water, r.record, true⟩ }
          | 6 => { c with motion := ⟨r.copy.motion, r.record, true⟩ }
          | 7 => { c with channel := ⟨r.copy.channel, r.record, true⟩ }
          | _ => { c with link := ⟨r.copy.link, r.record, true⟩ }, none, some ⟨r.table, true, none, none⟩⟩
        works := s.works.postStore ⟨r.table, true, none, none⟩ }
      ∧ ∀ k, exec (.storeVerify (some k)) s = .next
          { s with settings := ⟨c, none, some ⟨r.table, false, some .verify, some k⟩⟩,
                   works := s.works.postStore ⟨r.table, false, some .verify, some k⟩ }))

/-- R191, R192: READ-CAUSES gives the latched set, the working mask and the busy latch, or a named cause's flag and
detail, and changes no state; CLEAR-CAUSES clears each named cause and no other, and leaves mask and busy alone; SET-MASK
makes the set the working mask and sets busy where a latched cause is in it. A cause or a set naming a code outside the
fourteen is refused ILLEGAL; that the field named is 0 is the model's reading (log entry 17). RELEASE-ATTN clears busy, and
its reply waits for the test 100 µs later: ATTN_RETEST sets busy where a latched cause is in the mask, and builds the reply
after the test, with the SUMMARY that the test left. With no release pending, the test moves nothing (the model's choice,
log entry 10). -/
def Obligations.CauseRequests : Prop :=
  (∀ s : State, s.listens = true →
    exec (.readCauses none) s = .next (s.heard.answered 7 0x00
        (setBytes s.works.link.causes.latchedSet ++ setBytes s.works.link.mask ++ flag s.works.link.busy))
    ∧ (∀ c : Cause, exec (.readCauses (some (BitVec.ofNat 8 c.index))) s =
        .next (s.heard.answered 7 0x00 (s.works.link.causes.causeBytes c)))
    ∧ (∀ k : Byte, 14 ≤ k.toNat → exec (.readCauses (some k)) s = .next (s.refusedWith 7 0x83 [0xFF, 0]))
    ∧ (∀ named : FlagSet, named &&& ~~~0x3FFF#16 = 0 → ∃ causes, exec (.clearCauses named) s =
        .next (({ s with works := { s.works with link := { s.works.link with causes := causes } } }).heard.answered 8 0x00 [])
        ∧ (∀ c : Cause, named.getLsbD c.index = true → causes.isLatched c = false)
        ∧ ∀ c : Cause, named.getLsbD c.index = false → causes.detail? c = s.works.link.causes.detail? c)
    ∧ (∀ named : FlagSet, named &&& ~~~0x3FFF#16 ≠ 0 →
        exec (.clearCauses named) s = .next (s.refusedWith 8 0x83 [0xFF, 0]))
    ∧ (∀ mask : FlagSet, mask &&& ~~~0x3FFF#16 = 0 → exec (.setMask mask) s =
        .next (({ s with works := { s.works with link := { s.works.link with
          mask := mask
          busy := s.works.link.busy || allCauseNames.any fun c =>
            s.works.link.causes.isLatched c && mask.getLsbD c.index } } }).heard.answered 10 0x00 []))
    ∧ (∀ mask : FlagSet, mask &&& ~~~0x3FFF#16 ≠ 0 →
        exec (.setMask mask) s = .next (s.refusedWith 10 0x83 [0xFF, 0]))) ∧
  (∀ s : State, s.listens = true → exec .releaseAttn s =
    .next { s.heard with works := { s.heard.works with link := { s.works.link with busy := false, releasing := true } } }) ∧
  (∀ s : State, s.powered = true → s.works.link.releasing = true → exec .attnRetest s =
    .next (({ s with works := { s.works with link := { s.works.link with
      releasing := false
      busy := s.works.link.busy || allCauseNames.any fun c =>
        s.works.link.causes.isLatched c && s.works.link.mask.getLsbD c.index } } }).answered 9 0x00 [])) ∧
  (∀ s : State, s.powered = true → s.works.link.releasing = false → exec .attnRetest s = .next s)

/-- R181, R182 (its last sentence), R190: the receiver, byte by byte, while it is on: what each byte does in each of its
three states up to the completion of a frame, and what a gap above 4 ms does. An abandoned frame posts LINK with reason
FRAME, one more in the count, and its ADDR and KIND where they came; a frame for another address posts nothing. While a reply
is being sent, and while RELEASE-ATTN's reply waits for its test, the receiver is off: bytes are not received; that no gap is
judged either is the model's reading (log entry 8). That a byte of the SYNC value with a bad stop bit begins no frame, and
that one in the ADDR place abandons the frame with FRAME whatever its value, is the model's reading (log entry 26). A gap of
4 ms or less moves nothing (an expiry that is not due is the model's choice, log entry 10). -/
def Obligations.ReceiverMoves : Prop :=
  (∀ (s : State) (b : Byte) (good : Bool), s.powered = true →
    (s.works.link.sending.isSome ∨ s.works.link.releasing = true → exec (.byteReceived b good) s = .next s) ∧
    (s.works.link.sending = none → s.works.link.releasing = false →
      let at' (r : Receiver) : State :=
        { s with works := { s.works with link := { s.works.link with gap := 0, receiver := r } } }
      let dropped (frame : List Byte) : State :=
        { at' .ignoring with works := (at' .ignoring).works.postLink .frame frame[0]? frame[1]? }
      (s.works.link.receiver = .hunting → b = 0xC3 → good = true → exec (.byteReceived b good) s = .next (at' (.receiving [])))
      ∧ (s.works.link.receiver = .hunting → b ≠ 0xC3 ∨ good = false → exec (.byteReceived b good) s = .next (at' .hunting))
      ∧ (s.works.link.receiver = .ignoring → exec (.byteReceived b good) s = .next (at' .ignoring))
      ∧ (s.works.link.receiver = .receiving [] → good = true → (b.toNat = s.works.link.unit.toNat ∨ b = 15) →
          exec (.byteReceived b good) s = .next (at' (.receiving [b])))
      ∧ (s.works.link.receiver = .receiving [] → good = true → b.toNat ≠ s.works.link.unit.toNat → b ≠ 15 →
          exec (.byteReceived b good) s = .next (at' .ignoring))
      ∧ (∀ addr, s.works.link.receiver = .receiving [addr] → good = true →
          exec (.byteReceived b good) s = .next (at' (.receiving [addr, b])))
      ∧ (∀ addr kind, s.works.link.receiver = .receiving [addr, kind] → good = true → b.toNat ≤ 40 →
          exec (.byteReceived b good) s = .next (at' (.receiving [addr, kind, b])))
      ∧ (∀ addr kind, s.works.link.receiver = .receiving [addr, kind] → good = true → 40 < b.toNat →
          exec (.byteReceived b good) s = .next (dropped [addr, kind, b]))
      ∧ (∀ frame, s.works.link.receiver = .receiving frame → good = false →
          exec (.byteReceived b good) s = .next (dropped frame)))) ∧
  (∀ s : State, s.powered = true →
    let hunting : State := { s with works := { s.works with link := { s.works.link with receiver := .hunting } } }
    let judged : Prop := s.works.link.sending = none ∧ s.works.link.releasing = false ∧ 4 < s.works.link.gap
    (s.works.link.receiver = .hunting ∨ ¬judged → exec .linkGapTimeout s = .next s)
    ∧ (judged → s.works.link.receiver = .ignoring → exec .linkGapTimeout s = .next hunting)
    ∧ (judged → ∀ frame, s.works.link.receiver = .receiving frame → exec .linkGapTimeout s =
        .next { hunting with works := hunting.works.postLink .frame frame[0]? frame[1]? })) ∧
  (∀ (w : Works) (addr kind : Option Byte), ∃ reasons, (w.postLink .frame addr kind).link.causes.link =
      some ⟨reasons, min 255 ((w.link.causes.link.map (·.count)).getD 0 + 1), .frame, addr, kind⟩
    ∧ reasons.getLsbD 1 = true
    ∧ (w.postLink .frame addr kind).link.busy = (w.link.busy || w.link.mask.getLsbD 12)
    ∧ (w.postLink .frame addr kind).link.mask = w.link.mask)

/-- R181, R182, R195, R198: a request frame for this unit, sent byte by byte to a part that is hunting and has no reply to
send, is that request's command: no byte of SYNC, ADDR, KIND, LEN, payload and CHECK is read otherwise. -/
def Obligations.RequestFrameIsTheCommand : Prop :=
  ∀ (r : HostRequest) (s : State), s.powered = true → s.works.link.sending = none → s.works.link.releasing = false →
    s.works.link.receiver = .hunting →
    r.payload.length ≤ 40 →
    .next (s.hears (requestFrame (BitVec.ofNat 8 s.works.link.unit.toNat) r.kind r.payload)) =
      exec (commandOf r s.inputs) { s with works := { s.works with link := { s.works.link with gap := 0 } } }

/-- R182, R183, R198: the CHECK byte of a frame in reception. A sum that is not a multiple of 256 posts LINK with detail
CHECK. A good broadcast SLEEP, RECALL-SCENE or SET-CLIMATE has the effect of the request, without a reply; with a LEN that
does not fit it restarts the silence timer alone, and SLEEP wakes no DORMANT unit; any other good broadcast posts LINK with
detail BROADCAST. A good frame for this unit with a KIND of 0 or above 23 is answered UNKNOWN-KIND, and one whose LEN does not
fit its KIND BAD-LENGTH (WRITE-NEXT, and WRITE-TABLE past its two leading bytes, have lengths that their table gives). -/
def Obligations.FrameCompletions : Prop :=
  ∀ (addr kind len check : Byte) (payload : List Byte) (s : State), s.lives = true → s.works.link.sending = none →
    s.works.link.releasing = false → s.works.vehicle.restarting = false →
    s.works.link.receiver = .receiving (addr :: kind :: len :: payload) →
    len.toNat = payload.length → payload.length ≤ 40 →
    let good : Prop := frameSum (addr :: kind :: len :: payload ++ [check]) = 0
    let c := Instr.byteReceived check true
    let awake : Prop := s.works.vehicle.condition ≠ .dormant
    let done : State := { s with works := { s.works with link := { s.works.link with gap := 0, receiver := .hunting } } }
    let lengths : List (List Nat) := [[0], [3], [0], [], [], [1], [0, 1], [2], [0], [2], [2], [4], [1], [2], [1], [1, 3],
      [0], [0], [0], [2], [0], [0], [0]]
    (¬good → exec c s = .next { done with works := done.works.postLink .check (some addr) (some kind) }) ∧
    (good → addr = 15 →
      (kind.toNat ≠ 13 → kind.toNat ≠ 16 → kind.toNat ≠ 22 →
        exec c s = .next { done with works := done.works.postLink .broadcast (some 15) (some kind) }) ∧
      (awake → ∀ r : HostRequest, (r = .sleep ∨ (∃ n, r = .recallScene n) ∨ ∃ m p, r = .setClimate m p) →
        kind.toNat = r.kind → payload = r.payload →
        ∃ t u, exec c s = .next t ∧ exec (commandOf r s.inputs) done = .next u
          ∧ t = { u with works := { u.works with
              link := { u.works.link with sending := none }
              vehicle := { u.works.vehicle with justWoken := s.works.vehicle.justWoken } } }) ∧
      (awake → kind.toNat = 13 ∨ kind.toNat = 16 ∨ kind.toNat = 22 → payload.length ∉ lengths.getD (kind.toNat - 1) [] →
        exec c s = .next done.heard) ∧
      (¬awake → kind.toNat = 22 → exec c s = .next done.heard)) ∧
    (good → addr ≠ 15 → awake →
      (kind.toNat = 0 ∨ 23 < kind.toNat → exec c s = .next (done.refusedWith kind 0x81 [])) ∧
      (1 ≤ kind.toNat → kind.toNat ≤ 23 → kind.toNat ≠ 4 → kind.toNat ≠ 5 →
        payload.length ∉ lengths.getD (kind.toNat - 1) [] → exec c s = .next (done.refusedWith kind 0x82 [])) ∧
      (kind.toNat = 4 → payload = [] ∨ (∃ table, payload = [table] ∧ table.toNat ≤ 18) →
        exec c s = .next (done.refusedWith 4 0x82 [])))

/-- R198, R195: every request is read back from its KIND and payload; a KIND outside 1 to 23 names no request; the bytes of
a request frame, and of a reply, sum to 0 modulo 256 from ADDR to CHECK. R184, R197: the SUMMARY byte of a part that is
awake: bit 7 the busy latch, bit 6 any cause latched, bit 5 any Fault Table record LATCHED, bits 4 to 2 the shed level, bits
1 and 0 the condition code. -/
def Obligations.FramesAndSummary : Prop :=
  (∀ r : HostRequest, readFrame r.kind r.payload = .request r)
  ∧ (∀ (kind : Nat) (payload : List Byte), kind = 0 ∨ 23 < kind → readFrame kind payload = .unknownKind)
  ∧ (∀ (addr : Byte) (kind : Nat) (payload : List Byte), frameSum (requestFrame addr kind payload).tail = 0)
  ∧ (∀ (r : Reply) (unit : BitVec 2), frameSum (r.frame unit).tail = 0 ∧ (r.frame unit).head? = some 0xC3)
  ∧ (∀ (w : Works) (level : Nat), level ≤ 4 → w.vehicle.condition ≠ .dormant →
      (summaryByte w level).getLsbD 7 = w.link.busy
      ∧ ((summaryByte w level).getLsbD 6 = true ↔ ∃ c : Cause, w.link.causes.isLatched c = true)
      ∧ ((summaryByte w level).getLsbD 5 = true ↔ ∃ o c, (w.fault o c).state = .latched)
      ∧ (summaryByte w level).toNat / 4 % 8 = level
      ∧ (summaryByte w level).toNat % 4 = (match w.vehicle.condition with
          | .ready => 1
          | .driving => 2
          | _ => if w.vehicle.justWoken then 3 else 0))

/-- R174, R181: RESTART is refused BUSY while a store runs and answered OK otherwise, and the reset comes when the reply's
last byte has gone: REPLY_SENT then resets with kind RESTART, the account's charge and confidence kept (R38), latched
records kept (R83), the live tables as loaded (R176). After any other reply REPLY_SENT returns the receiver to HUNTING. -/
def Obligations.RestartAndReplySent : Prop :=
  (∀ s : State, s.listens = true → s.settings.run = none → exec .restart s =
    .next (({ s with works := { s.works with vehicle := { s.works.vehicle with restarting := true } } }).heard.answered
      23 0x00 [])) ∧
  (∀ s : State, s.listens = true → s.settings.run.isSome → exec .restart s = .next (s.refusedWith 23 0x84 [0])) ∧
  (∀ s : State, s.powered = true → s.works.link.sending.isSome →
    (s.works.vehicle.restarting = false → exec .replySent s = .next { s with works := { s.works with link :=
      { s.works.link with sending := none, receiver := .hunting, gap := 0 } } }) ∧
    (s.works.vehicle.restarting = true → ∃ t, exec .replySent s = .next t ∧ t.powered = true
      ∧ t.works.vehicle.startRecord.kind = .restart
      ∧ t.works.vehicle.startRecord.before = some s.works.vehicle.condition
      ∧ t.works.vehicle.restarting = false ∧ t.works.vehicle.uptime = 0
      ∧ t.account.q = s.account.q ∧ t.account.confidence = s.account.confidence
      ∧ t.account.shedLevel = s.account.shedLevel ∧ t.works.link.live = s.settings.stored.loaded
      ∧ (∀ o c, (s.works.fault o c).state = .latched → (t.works.fault o c).state = .latched
          ∧ (t.works.fault o c).attempts = (s.works.fault o c).attempts
          ∧ (t.works.out o).driven = .latched)))

/-! ## The auxiliary output -/

/-- R189, R46, R50, R65: SWITCH of AUX. ON, with AUX off and asking for nothing, nobody waiting and room for its adopted
class and rated mA: AUX is granted at the end of the Grant List and driven. OFF, with AUX driven and nobody waiting: its
demand, its grant and its record go. A state already wanted moves nothing. -/
def Obligations.AuxSwitched : Prop :=
  ∀ s : State, s.listens = true →
    let live := s.works.link.live.load[(11 : Fin 12)]
    let cls := live.cls.getD 0
    let a := s.works.arbiter
    (s.works.link.auxWanted = false → s.works.resting AUX = true → a.waits = [] → s.works.stages.stage < 3 →
      a.permits cls = true → (cls = 0 ∨ live.rated ≤ a.headroom) →
      exec (.switch 11 0) s = .next (({ s with works := { s.works with
        arbiter := { a with
          arrivals := a.arrivals + 1
          grants := a.grants ++ [GrantRecord.mk AUX cls live.rated none live.rated live.rated none (a.arrivals + 1)] }
        stages := { s.works.stages with outs := s.works.stages.outs.set AUX { s.works.out AUX with
          demand := some .on
          grant := some (Allotment.mk live.rated none)
          driven := .on
          load := live } }
        link := { s.works.link with auxWanted := true } } }).heard.answered 11 0x00 [])) ∧
    (s.works.link.auxWanted = true → s.works.driving AUX = true → a.waits = [] →
      ∃ t, exec (.switch 11 1) s = .next t ∧ t.works.link.auxWanted = false
        ∧ (t.works.out AUX).driven = .off ∧ (t.works.out AUX).demand = none ∧ (t.works.out AUX).grant = none
        ∧ (t.works.out AUX).current = 0
        ∧ t.works.arbiter = { a with grants := a.grants.filter fun r => r.out != AUX }
        ∧ (∀ o, o ≠ AUX → t.works.out o = s.works.out o)
        ∧ (∃ summary, t.works.link.sending = some ⟨11, 0x00, summary, []⟩)
        ∧ s.worksOnly t ∧ t.works.lights = s.works.lights ∧ t.works.climate = s.works.climate
        ∧ t.works.water = s.works.water ∧ t.works.motion = s.works.motion
        ∧ t.works.link.causes = s.works.link.causes) ∧
    (s.works.link.auxWanted = false → exec (.switch 11 1) s = .next (s.heard.answered 11 0x00 [])) ∧
    (s.works.link.auxWanted = true → exec (.switch 11 0) s = .next (s.heard.answered 11
      (if (s.works.out AUX).grant.isSome then 0x00 else 0x02) []))

/-! ## The lights -/

/-- R86, R87, R94: SET-LIGHT and RECALL-SCENE within the grants that the named channels hold in full: each named channel
takes its wanted and aim duty and its fade time, and a fade to it waits for the next boundary; every other channel, every
output and every grant is left alone. A duty above 1000 is clamped, and the reply says so. A setting of L5 ends its
courtesy action. L4 while it is forced is shut out (R98). -/
def Obligations.LightsSetWithinTheirGrants : Prop :=
  ∀ s : State, s.listens = true →
    let free (ch : LightId) (d : Nat) : Prop := (∃ c, (s.works.light ch).cover = some c ∧ d ≤ c.duty)
      ∧ (s.works.light ch).lowering = none ∧ (s.works.light ch).stance = .full
      ∧ (ch = 3 → s.works.lights.forced = false)
    let set (ch : LightId) (d f : Nat) : Light := { s.works.light ch with
      wanted := d
      aim := d
      fadeTime := f
      pending := none
      fade := some ⟨d, f * 5, 0, none, 0⟩ }
    (∀ (ch : LightId) (duty : BitVec 16) (f : Byte), free ch (min 1000 duty.toNat) →
      exec (.setLight (BitVec.ofNat 8 ch.val) duty f) s = .next (({ s with works := { s.works with lights :=
        { s.works.lights with
          channels := s.works.lights.channels.set ch (set ch (min 1000 duty.toNat) f.toNat)
          courtesy := if ch = 4 then .idle else s.works.lights.courtesy } } }).heard.answered 12
        (if 1000 < duty.toNat then 0x01 else 0x00)
        (u8 ch.val ++ u16 (min 1000 duty.toNat) ++ u16 (((s.works.light ch).cover.map Cover.duty).getD 0)))) ∧
    (∀ n : Fin 8, let scene := s.works.link.live.scenes.scenes[n]
      (∀ (ch : LightId) (d : Nat), scene.duties[ch] = some d → free ch d) →
      ∃ t, exec (.recallScene (BitVec.ofNat 8 n.val)) s = .next t
        ∧ (∀ ch : LightId, t.works.light ch = match scene.duties[ch] with
            | some d => set ch d scene.fadeTime
            | none => s.works.light ch)
        ∧ t.works.lights.courtesy = (if scene.duties[(4 : LightId)].isSome then .idle else s.works.lights.courtesy)
        ∧ t.works.lights.forced = s.works.lights.forced
        ∧ { t with works := { t.works with lights := s.works.lights } } = s.heard.answered 13 0x00 [])

/-- R64, R86, R87, R90, R45: SET-LIGHT of a dark channel whose output asks for nothing, with nobody waiting and room for
its whole amount: the output adopts its live record, the channel is granted the amount for the duty in full, and a fade
from dark to the duty waits for the next boundary; nothing is driven before that boundary. -/
def Obligations.DarkLightGranted : Prop :=
  ∀ (ch : LightId) (duty : BitVec 16) (f : Byte) (s : State), s.listens = true →
    let l := s.works.light ch
    let o := lightOut ch
    let live := s.works.link.live.load[o]
    let cls := live.cls.getD 0
    let d := duty.toNat
    let amount := (live.rated * d + 999) / 1000
    let a := s.works.arbiter
    1 ≤ d → d ≤ 1000 → s.works.resting o = true → a.waits = [] → l.cover = none → l.lowering = none → l.applied = 0 →
    l.stance = .none → l.fade = none → (ch = 3 → s.works.lights.forced = false) →
    a.permits cls = true → (cls = 0 ∨ amount ≤ a.headroom) →
    ∃ t, exec (.setLight (BitVec.ofNat 8 ch.val) duty f) s = .next t
      ∧ t.works.light ch = { l with
          wanted := d
          aim := d
          fadeTime := f.toNat
          pending := none
          cover := some ⟨amount, d⟩
          stance := .full
          fade := some ⟨d, f.toNat * 5, 0, none, 0⟩ }
      ∧ (∀ k : LightId, k ≠ ch → t.works.light k = s.works.light k)
      ∧ t.works.out o = { s.works.out o with load := live, grant := some ⟨amount, some d⟩ }
      ∧ (∀ p, p ≠ o → t.works.out p = s.works.out p)
      ∧ t.works.arbiter = { a with
          arrivals := a.arrivals + 1
          grants := a.grants ++ [GrantRecord.mk o cls amount (some d) amount
            (min ((live.rated * live.floorDuty.getD 0 + 999) / 1000) amount)
            (some ⟨live.rated, d, live.floorDuty.getD 0⟩) (a.arrivals + 1)] }
      ∧ (∃ summary, t.works.link.sending = some ⟨12, 0x00, summary, u8 ch.val ++ u16 d ++ u16 d⟩)
      ∧ s.worksOnly t ∧ t.works.climate = s.works.climate ∧ t.works.water = s.works.water
      ∧ t.works.motion = s.works.motion ∧ t.works.link.causes = s.works.link.causes

/-- R84, R85, R65: a period boundary with no fade in hand and no reduction due. Each channel's covering grant drops where a
revocation or cut is due, its applied duty becomes its pending duty (or stays) within the covering grant, and its slot is
emptied; its output's demand follows a duty that changed: OFF at 0, else ON with the duty. An output that is OFF with a
grant is driven by its new demand while the thermal stage is below 3, and a driven one goes off with its demand. -/
def Obligations.PeriodBoundary : Prop :=
  ∀ s : State, s.lives = true →
    (∀ ch : LightId, (s.works.light ch).fade = none ∧ ∀ c, (s.works.light ch).lowering ≠ some (.to c)) →
    ∃ t, exec .periodBoundary s = .next t
      ∧ (∀ ch : LightId, let l := s.works.light ch
          let cover := if l.lowering = some .toNone then none else l.cover
          t.works.light ch = { l with
            cover := cover
            lowering := none
            pending := none
            applied := match cover with
              | some c => min (l.pending.getD l.applied) c.duty
              | none => 0 })
      ∧ (∀ ch : LightId, (t.works.out (lightOut ch)).demand =
          if (t.works.light ch).applied = (s.works.light ch).applied then (s.works.out (lightOut ch)).demand
          else if (t.works.light ch).applied = 0 then none else some (.duty (t.works.light ch).applied))
      ∧ (∀ ch : LightId, (t.works.light ch).applied ≠ (s.works.light ch).applied →
          ((t.works.light ch).applied = 0 → (s.works.out (lightOut ch)).driven = .on →
            (t.works.out (lightOut ch)).driven = .off)
          ∧ ((t.works.light ch).applied ≠ 0 → (s.works.out (lightOut ch)).driven = .off →
            (s.works.out (lightOut ch)).grant.isSome → s.works.stages.stage < 3 →
            (t.works.out (lightOut ch)).driven = .on))
      ∧ (∀ o : OutId, (t.works.out o).grant = (s.works.out o).grant) ∧ t.works.arbiter = s.works.arbiter
      ∧ s.worksOnly t ∧ t.works.climate = s.works.climate ∧ t.works.water = s.works.water
      ∧ t.works.motion = s.works.motion ∧ t.works.vehicle = s.works.vehicle ∧ t.works.link = s.works.link

/-- R88, R89: a tick of a running fade places D0 + (Dt − D0) × k / N, rounded toward zero, for the next boundary, and
nothing else moves; a fade that waits or has placed its last tick places nothing. The end of a fade to the full granted
duty applies its target, drives the output at it and ends the fade; the end of a fade to 0 releases the grant; the end of one
between them asks for its target, and with room for it holds the smaller grant in full. FADE_END by itself, whatever ticks
are left, is the event of the fade's last tick (the model's choice, log entry 10). -/
def Obligations.FadeTicksAndEnds : Prop :=
  ∀ (ch : LightId) (s : State), s.lives = true →
    let l := s.works.light ch
    let o := lightOut ch
    (∀ (f : Fade) (d0 : Nat), l.fade = some f → f.start = some d0 → f.done < f.ticks →
      exec (.fadeTick ch) s = .next { s with works := { s.works with lights := { s.works.lights with
        channels := s.works.lights.channels.set ch { l with
          pending := some ((d0 : Int) + Int.tdiv (((f.target : Int) - d0) * (f.done + 1 : Nat)) f.ticks).toNat
          fade := some { f with done := f.done + 1 } } } } }) ∧
    (l.fade = none ∨ (∃ f, l.fade = some f ∧ (f.start = none ∨ f.ticks ≤ f.done)) →
      exec (.fadeTick ch) s = .next s) ∧
    (∀ (f : Fade) (c : Cover), l.fade = some f → f.start.isSome → l.cover = some c → l.lowering = none →
      l.stance = .full → f.target ≤ c.duty → l.applied ≠ f.target →
      (f.target = c.duty → 0 < f.target → ∃ t, exec (.fadeEnd ch) s = .next t
        ∧ t.works.light ch = { l with applied := f.target, pending := none, fade := none }
        ∧ (t.works.out o).demand = some (.duty f.target)
        ∧ (∀ k : LightId, k ≠ ch → t.works.light k = s.works.light k)
        ∧ (∀ p, p ≠ o → t.works.out p = s.works.out p)
        ∧ t.works.arbiter = s.works.arbiter ∧ s.worksOnly t ∧ t.works.link = s.works.link
        ∧ t.works.climate = s.works.climate ∧ t.works.water = s.works.water ∧ t.works.motion = s.works.motion) ∧
      (f.target = 0 → s.works.driving o = true → s.works.arbiter.waits = [] → ∃ t, exec (.fadeEnd ch) s = .next t
        ∧ t.works.light ch = { l with applied := 0, pending := none, fade := none, cover := none, stance := .none }
        ∧ (t.works.out o).demand = none ∧ (t.works.out o).driven = .off ∧ (t.works.out o).grant = none
        ∧ t.works.arbiter = { s.works.arbiter with grants := s.works.arbiter.grants.filter fun r => r.out != o }
        ∧ (∀ k : LightId, k ≠ ch → t.works.light k = s.works.light k)
        ∧ (∀ p, p ≠ o → t.works.out p = s.works.out p)
        ∧ s.worksOnly t ∧ t.works.link = s.works.link ∧ t.works.climate = s.works.climate
        ∧ t.works.water = s.works.water ∧ t.works.motion = s.works.motion) ∧
      (let live := s.works.link.live.load[o]
       let amount := (live.rated * f.target + 999) / 1000
       0 < f.target → f.target < c.duty → l.aim = f.target → s.works.driving o = true → s.works.arbiter.waits = [] →
       s.works.arbiter.permits (live.cls.getD 0) = true → (live.cls.getD 0 = 0 ∨ amount ≤ s.works.arbiter.headroom) →
       ∃ t, exec (.fadeEnd ch) s = .next t
        ∧ t.works.light ch = { l with
            applied := f.target
            pending := none
            cover := some ⟨amount, f.target⟩
            fade := some ⟨f.target, l.fadeTime * 5, 0, none, 0⟩ }
        ∧ (t.works.out o).demand = some (.duty f.target) ∧ (t.works.out o).driven = .on
        ∧ (t.works.out o).grant = some ⟨amount, some f.target⟩
        ∧ (∀ k : LightId, k ≠ ch → t.works.light k = s.works.light k)
        ∧ (∀ p, p ≠ o → t.works.out p = s.works.out p)
        ∧ s.worksOnly t ∧ t.works.link = s.works.link ∧ t.works.climate = s.works.climate
        ∧ t.works.water = s.works.water ∧ t.works.motion = s.works.motion))

/-! ## The axes -/

/-- R154, R143, R145 to R147: MOVE to RETRACT of an axis that is not RETRACTED, found by an idle stage with an empty queue
and MOTOR asking for nothing: MOTOR is granted under class 0 and the stage takes the entry, pausing 200 ms, or 300 ms
where the last drive was of the same axis the other way; the reply is OK. A MOVE to where the axis stands, with nothing
queued or held, is OK and moves nothing. -/
def Obligations.MoveRequestsTaken : Prop :=
  ∀ (x : Axis) (s : State), s.listens = true → s.works.motion.stage = .idle → s.works.motion.queue = [] →
    let m := s.works.motion
    let a := s.works.arbiter
    let live := s.works.link.live.load[(10 : Fin 12)]
    ((m.axis x).state ≠ .retracted → s.works.resting MOTOR = true → a.waits = [] → a.permits 0 = true →
      m.last ≠ some (x, .retract) →
      ∃ t, exec (.move (BitVec.ofNat 8 (axisIndex x)) 1) s = .next t
        ∧ t.works.motion = { m with stage := .pausing ⟨⟨x, .retract, .host, s.works.vehicle.uptime⟩,
            if m.last = some (x, .extend) then 300 else 200, none, 0, 0, false⟩ }
        ∧ t.works.out MOTOR = { s.works.out MOTOR with load := live, grant := some ⟨live.rated, none⟩ }
        ∧ (∀ o, o ≠ MOTOR → t.works.out o = s.works.out o)
        ∧ t.works.arbiter = { a with
            arrivals := a.arrivals + 1
            grants := a.grants ++ [GrantRecord.mk MOTOR 0 live.rated none live.rated live.rated none (a.arrivals + 1)] }
        ∧ (∃ summary, t.works.link.sending = some ⟨14, 0x00, summary, []⟩)
        ∧ s.worksOnly t ∧ t.works.lights = s.works.lights ∧ t.works.climate = s.works.climate
        ∧ t.works.water = s.works.water ∧ t.works.link.causes = s.works.link.causes) ∧
    ((m.axis x).state = .retracted → exec (.move (BitVec.ofNat 8 (axisIndex x)) 1) s = .next (s.heard.answered 14 0x00 [])) ∧
    ((m.axis x).state = .extended → s.works.vehicle.condition = .parked → m.windHold = none →
      exec (.move (BitVec.ofNat 8 (axisIndex x)) 0) s = .next (s.heard.answered 14 0x00 []))

/-- R149 to R153, R155, R161: how a driven move ends, with nothing queued and nobody waiting: a RETRACT whose retracted
switch closes and a STEP EXTEND whose extended switch closes are DONE at the switch; STOP-MOVE and a JAM, whose timer has
reached 500 ms, leave the axis PARTIAL at its position where it was known at the drive start and UNKNOWN otherwise, as a
STALL leaves an EXTEND; a STALL or an OVERRUN of a RETRACT leaves it UNKNOWN; an EXTEND that reaches its travel is EXTENDED
there. The stage is IDLE, MOTOR has no demand, no grant and no record, and MOTION carries the end. An AUTO RETRACT is not
stopped (R155). That TRAVEL_REACHED, MOVE_OVERRUN and STALL_EXPIRY are the event itself, whatever the counts and times, and
that with no move driven, or the jam timer short of 500 ms, none of the four events moves anything, is the model's choice
(log entry 10). -/
def Obligations.MoveEndings : Prop :=
  (∀ (c : Instr) (h : HeldMove) (outcome : MoveOutcome) (cause : Option MoveCause) (s : State), s.lives = true →
    let m := s.works.motion
    let x := h.entry.axis
    let short : AxisState × Option Nat := if h.known then (.part, (m.axis x).position) else (.unknown, none)
    ∀ final : AxisState × Option Nat,
    m.stage = .driving h → m.queue = [] → m.adopted = s.works.link.live.motion → s.works.driving MOTOR = true →
    s.works.arbiter.waits = [] →
    (c = .stopMove (BitVec.ofNat 8 (axisIndex x)) ∧ s.listens = true ∧ m.autoRetract x = false ∧ outcome = .stopped
        ∧ cause = some .host ∧ final = short
      ∨ c = .travelReached ∧ h.entry.direction = .extend ∧ outcome = .done ∧ cause = none
        ∧ final = (.extended, some (m.adopted.travel x))
      ∨ c = .moveOverrun ∧ h.entry.direction = .retract ∧ outcome = .overrun ∧ cause = none ∧ final = (.unknown, none)
      ∨ c = .stallExpiry ∧ h.stallTimer.isSome ∧ outcome = .stall ∧ cause = none
        ∧ final = (match h.entry.direction with | .extend => short | .retract => (.unknown, none))
      ∨ c = .jamExpiry ∧ 500 ≤ h.jamTimer ∧ outcome = .jam ∧ cause = none ∧ final = short) →
    ∃ t, exec c s = .next t ∧ t.works.motion.stage = .idle ∧ t.works.motion.queue = []
      ∧ t.works.motion.axis x = { m.axis x with state := final.1, position := final.2 }
      ∧ (∀ y, y ≠ x → t.works.motion.axis y = m.axis y)
      ∧ t.works.motion.adopted = m.adopted ∧ t.works.motion.last = m.last ∧ t.works.motion.windHold = m.windHold
      ∧ (t.works.out MOTOR).demand = none ∧ (t.works.out MOTOR).driven = .off ∧ (t.works.out MOTOR).grant = none
      ∧ (∀ o, o ≠ MOTOR → t.works.out o = s.works.out o)
      ∧ t.works.arbiter = { s.works.arbiter with grants := s.works.arbiter.grants.filter fun r => r.out != MOTOR }
      ∧ (∃ axes, t.works.link.causes.motion = some ⟨axes, x, some h.entry.direction, some h.entry.origin, outcome, cause,
            final.1, final.2⟩ ∧ axes.getLsbD (axisIndex x) = true)
      ∧ s.worksOnly t ∧ t.works.lights = s.works.lights ∧ t.works.climate = s.works.climate
      ∧ t.works.water = s.works.water) ∧
  (∀ (sw : AxisSwitch) (h : HeldMove) (s : State), s.lives = true →
    let m := s.works.motion
    let x := h.entry.axis
    m.stage = .driving h → m.queue = [] → m.adopted = s.works.link.live.motion → s.works.driving MOTOR = true →
    s.works.arbiter.waits = [] → switchAxis sw = (x, decide (h.entry.direction = .retract)) →
    (match h.entry.direction with
      | .retract => (m.axis x).retractedSwitch
      | .extend => (m.axis x).extendedSwitch) = false →
    let final : AxisState × Option Nat := match h.entry.direction with
      | .retract => (.retracted, some 0)
      | .extend => (.extended, some (m.adopted.travel x))
    ∃ t, exec (.axisSwitchChange sw true) s = .next t ∧ t.works.motion.stage = .idle ∧ t.works.motion.queue = []
      ∧ t.works.motion.axis x = ⟨final.1, final.2, (m.axis x).retractedSwitch || decide (h.entry.direction = .retract),
          (m.axis x).extendedSwitch || decide (h.entry.direction = .extend)⟩
      ∧ (∀ y, y ≠ x → t.works.motion.axis y = m.axis y)
      ∧ (t.works.out MOTOR).demand = none ∧ (t.works.out MOTOR).driven = .off ∧ (t.works.out MOTOR).grant = none
      ∧ (∀ o, o ≠ MOTOR → t.works.out o = s.works.out o)
      ∧ t.works.arbiter = { s.works.arbiter with grants := s.works.arbiter.grants.filter fun r => r.out != MOTOR }
      ∧ (∃ axes, t.works.link.causes.motion = some ⟨axes, x, some h.entry.direction, some h.entry.origin, .done, none,
            final.1, final.2⟩ ∧ axes.getLsbD (axisIndex x) = true)
      ∧ t.scanner = s.scanner ∧ t.account = s.account ∧ t.settings = s.settings ∧ t.works.lights = s.works.lights
      ∧ t.works.climate = s.works.climate ∧ t.works.water = s.works.water) ∧
  (∀ s : State, s.lives = true → (∃ h, s.works.motion.stage = .driving h ∧ h.jamTimer < 500) →
    exec .jamExpiry s = .next s) ∧
  (∀ (c : Instr) (s : State), s.lives = true → (∀ h, s.works.motion.stage ≠ .driving h) →
    (c = .travelReached ∨ c = .moveOverrun ∨ c = .stallExpiry ∨ c = .jamExpiry) → exec c s = .next s)

/-- R146, R65: the drive start of a paused move whose pause has run out. A RETRACT whose retracted switch is OPEN, and an
EXTEND of an axis that is known, parked or dormant, out of the wind hold and not yet at its end switch (for STEP, with no
courtesy action due), enters RETRACTING or EXTENDING; the stage drives with every clock and the count at 0, the drive is
remembered, and MOTOR is driven for that axis and direction (that an EXTEND whose position is at its travel already drives on
is the model's reading, log entry 34). R144, R157, R161: an EXTEND entry that has stood 30 s behind a held move or a latched
stage leaves the queue with a MOTION of outcome DENIED and cause EXPIRED; a RETRACT entry does not expire. The wind hold ends
with its timer. While the pause, the 30 s or the hold time is not over, none of the three moves anything (the model's choice,
log entry 10). -/
def Obligations.MotionTimers : Prop :=
  (∀ (h : HeldMove) (s : State), s.lives = true →
    let m := s.works.motion
    let x := h.entry.axis
    let d := h.entry.direction
    m.stage = .pausing h → (0 < h.pauseLeft → exec .driveStart s = .next s) ∧ (
    h.pauseLeft = 0 → (s.works.out MOTOR).driven = .off → (s.works.out MOTOR).grant.isSome →
    s.works.stages.stage < 3 →
    (d = .retract ∧ (m.axis x).retractedSwitch = false
      ∨ d = .extend ∧ (m.axis x).state ≠ .unknown
        ∧ (s.works.vehicle.condition = .parked ∨ s.works.vehicle.condition = .dormant)
        ∧ (x = .awn → m.windHold = none)
        ∧ (x = .step → m.step.extendedSwitch = false
          ∧ (s.works.vehicle.condition = .dormant ∨ s.works.link.live.scenes.courtesyDuty ≤ (s.works.light 4).wanted))) →
    ∃ t, exec .driveStart s = .next t
      ∧ t.works.motion.stage = .driving { h with
          pauseLeft := 0
          stallTimer := none
          jamTimer := 0
          count := 0
          known := (m.axis x).position.isSome }
      ∧ t.works.motion.axis x = { m.axis x with state := match d with | .extend => .extending | .retract => .retracting }
      ∧ (∀ y, y ≠ x → t.works.motion.axis y = m.axis y) ∧ t.works.motion.last = some (x, d)
      ∧ t.works.motion.queue = m.queue ∧ t.works.motion.windHold = m.windHold
      ∧ t.works.out MOTOR = { s.works.out MOTOR with demand := some (.motor x d), driven := .on }
      ∧ (∀ o, o ≠ MOTOR → t.works.out o = s.works.out o) ∧ t.works.arbiter = s.works.arbiter
      ∧ s.worksOnly t ∧ t.works.lights = s.works.lights ∧ t.works.climate = s.works.climate
      ∧ t.works.water = s.works.water ∧ t.works.vehicle = s.works.vehicle)) ∧
  (∀ (x : Axis) (e : QueueEntry) (s : State), s.lives = true → s.works.motion.entryOf x = some e →
    (e.direction = .extend → e.entryTime + 30000 ≤ s.works.vehicle.uptime →
      (∃ h, s.works.motion.stage = .pausing h ∨ s.works.motion.stage = .driving h) ∨ s.works.motion.stage = .held →
      let w : Works := { s.works with motion := { s.works.motion with
        queue := s.works.motion.queue.filter fun f => f.axis != x } }
      exec (.entryExpiry x) s =
        .next { s with works := w.postMotion e.axis (some .extend) (some e.origin) .denied (some .expired) }) ∧
    (e.direction = .retract ∨ s.works.vehicle.uptime < e.entryTime + 30000 → exec (.entryExpiry x) s = .next s)) ∧
  (∀ s : State, s.lives = true →
    (s.works.motion.windHold = some 0 → exec .windHoldExpiry s =
      .next { s with works := { s.works with motion := { s.works.motion with windHold := none } } }) ∧
    (s.works.motion.windHold ≠ some 0 → exec .windHoldExpiry s = .next s))

/-- R141, R152: a hall pulse of the driven axis short of the move's end moves the position by one (not below 0), counts
and restarts the jam timer; a pulse of an axis that is not driven moves nothing. R142, R161: a change of a debounced switch
of an axis that is not being driven. A retracted switch that closes puts the axis RETRACTED at 0, one that opens leaves a
RETRACTED axis UNKNOWN, STEP's extended switch that closes puts a PARTIAL or UNKNOWN STEP EXTENDED at its travel, each with a
MOTION of outcome SWITCH; any other change moves the switch alone. -/
def Obligations.PulsesAndSwitchChanges : Prop :=
  (∀ (h : HeldMove) (s : State), s.lives = true → s.works.motion.stage = .driving h →
    let m := s.works.motion
    let x := h.entry.axis
    let position := match h.entry.direction with
      | .extend => (m.axis x).position.map fun p => p + 1
      | .retract => (m.axis x).position.map fun p => p - 1
    (h.entry.direction = .extend → position.getD 0 < m.adopted.travel x) →
    (h.entry.direction = .retract → h.count + 1 ≤ 120 * m.adopted.travel x / 100) →
    exec (.hallPulse x) s = .next { s with works := { s.works with motion :=
      { m.setAxis x { m.axis x with position := position } with
        stage := .driving { h with count := h.count + 1, jamTimer := 0 } } } }) ∧
  (∀ (x : Axis) (s : State), s.lives = true → (∀ h, s.works.motion.stage = .driving h → h.entry.axis ≠ x) →
    exec (.hallPulse x) s = .next s) ∧
  (∀ (sw : AxisSwitch) (closed : Bool) (s : State), s.lives = true →
      let m := s.works.motion
      let x := (switchAxis sw).1
      let retracted := (switchAxis sw).2
      (∀ h, m.stage = .driving h → h.entry.axis ≠ x) →
      (if retracted then (m.axis x).retractedSwitch else (m.axis x).extendedSwitch) = !closed →
      let state := (m.axis x).state
      let moved : Option (AxisState × Option Nat) :=
        if retracted ∧ closed ∧ state ≠ .retracted then some (.retracted, some 0)
        else if retracted ∧ ¬closed ∧ state = .retracted then some (.unknown, none)
        else if ¬retracted ∧ closed ∧ (state = .part ∨ state = .unknown) then some (.extended, some (m.adopted.travel x))
        else none
      let final := moved.getD (state, (m.axis x).position)
      ∃ t, exec (.axisSwitchChange sw closed) s = .next t
        ∧ t.works.motion.axis x = ⟨final.1, final.2, if retracted then closed else (m.axis x).retractedSwitch,
            if retracted then (m.axis x).extendedSwitch else closed⟩
        ∧ (∀ y, y ≠ x → t.works.motion.axis y = m.axis y) ∧ t.works.motion.stage = m.stage
        ∧ t.works.motion.queue = m.queue
        ∧ (moved = none → t.works.link = s.works.link)
        ∧ (moved.isSome → ∃ axes, t.works.link.causes.motion = some ⟨axes, x, none, none, .switch, none, final.1, final.2⟩
            ∧ axes.getLsbD (axisIndex x) = true)
        ∧ t.account = s.account ∧ t.scanner = s.scanner ∧ t.settings = s.settings ∧ t.works.arbiter = s.works.arbiter
        ∧ t.works.stages = s.works.stages ∧ t.works.lights = s.works.lights ∧ t.works.vehicle = s.works.vehicle)

/-! ## The heater -/

/-- R117, R101, R103, R104: SET-CLIMATE in LOCKOUT, where no demand moves the heater: the mode and the clamped setpoint are
taken, both demands are evaluated from the copies, and the reply gives mode, setpoint, effective setpoint and heater state,
CLAMPED where the setpoint was moved. R118, R106, R130: RESET-HEATER in LOCKOUT with neither output LATCHED and no heat
wanted enters OFF with no failures, and the Water Controller takes the new state and judges frost; outside LOCKOUT it is OK
and moves nothing. -/
def Obligations.ClimateRequestsInLockout : Prop :=
  (∀ (mode : ClimateMode) (p : Option (BitVec 16)) (reason : LockoutReason) (s : State), s.listens = true →
    let c := s.works.climate
    c.heater = .lockout reason →
    let setpoint : Nat := match p with
      | some p => (max 50 (min 300 p.toInt)).toNat
      | none => c.setpoint
    let effective : Option Nat := match mode with
      | .off => none
      | .comfort => some setpoint
      | .eco => some (max 50 (setpoint - c.adopted.ecoOffset))
      | .frost => some 50
    let cabin : Bool := match effective, c.cabin.usable with
      | some e, some t =>
        if c.cabinDemand then !decide ((e : Int) + c.adopted.hysteresis ≤ t)
        else decide (t ≤ (e : Int) - c.adopted.hysteresis)
      | _, _ => false
    let water : Bool := match effective, c.water.usable with
      | some _, some t => if c.waterDemand then !decide (80 ≤ t) else decide (t ≤ 50)
      | _, _ => false
    exec (.setClimate (BitVec.ofNat 8 mode.code) p) s = .next (({ s with works := { s.works with climate := { c with
        mode := mode
        setpoint := setpoint
        cabinDemand := cabin
        waterDemand := water } } }).heard.answered 16
      (match p with
        | some p => if 50 ≤ p.toInt ∧ p.toInt ≤ 300 then 0x00 else 0x01
        | none => 0x00)
      (u8 mode.code ++ s16 setpoint ++ optS16 (effective.map fun e => (e : Int)) ++ [5]))) ∧
  (∀ s : State, s.listens = true →
      (∀ reason, s.works.climate.heater = .lockout reason → (s.works.out HBRN).driven ≠ .latched →
        (s.works.out HFAN).driven ≠ .latched → s.works.climate.heatDemand = false →
        ∃ frost, exec .resetHeater s = .next (({ s with works := { s.works with
            climate := { s.works.climate with heater := .off, failures := 0, firstLoss := none }
            water := { s.works.water with heaterCopy := .off, frost := frost } } }).heard.answered 17 0x00 [])
          ∧ ((∀ t, s.works.water.waterCopy.usable = some t → t ≤ s.works.water.adopted.frostThreshold) →
              frost = if s.works.water.frost = .stopped then .running 0 else s.works.water.frost)
          ∧ ((∃ t, s.works.water.waterCopy.usable = some t ∧ s.works.water.adopted.frostThreshold < t) → frost = .stopped)) ∧
      ((∀ reason, s.works.climate.heater ≠ .lockout reason) → exec .resetHeater s = .next (s.heard.answered 17 0x00 [])))

/-- R105, R106, R107, R109, R112, R113, R130: the flame SEEN in IGNITING, where the fan already has the duty its law asks for
and nobody waits: the burner is given up, the failures rest, the heater is RUNNING, and the Water Controller's frost timer
stops. The flame lost in RUNNING purges 120 s, to RE-IGNITE with the loss counted, or to LOCKOUT where the counted one lies
600 s back or less; a flame SEEN in OFF purges 120 s with reason STRAY to OFF. Each purge drives HFAN at 1000 under class 0.
In LOCKOUT, and in OFF when the flame goes, a change of the flame moves the flame state alone; the state already held is no
change (the model's choice, log entry 6). An uptime in seconds is rounded down (the model's choice, log entry 32). -/
def Obligations.FlameChanges : Prop :=
  ∀ s : State, s.lives = true →
    (∀ timer, s.works.climate.heater = .igniting timer → s.works.climate.flame = false → s.works.driving HBRN = true →
      s.works.arbiter.waits = [] → s.works.climate.fanDuty = s.works.climate.fanWanted →
      ∃ t, exec (.flameStateChange true) s = .next t
        ∧ t.works.climate = { s.works.climate with flame := true, heater := .running, failures := 0 }
        ∧ t.works.water = { s.works.water with heaterCopy := .running, frost := .stopped }
        ∧ (t.works.out HBRN).demand = none ∧ (t.works.out HBRN).driven = .off ∧ (t.works.out HBRN).grant = none
        ∧ (∀ o, o ≠ HBRN → t.works.out o = s.works.out o)
        ∧ t.works.arbiter = { s.works.arbiter with grants := s.works.arbiter.grants.filter fun r => r.out != HBRN }
        ∧ t.works.lights = s.works.lights ∧ t.works.motion = s.works.motion ∧ t.works.link = s.works.link
        ∧ t.account = s.account) ∧
    (∀ seen : Bool, s.works.resting HBRN = true → s.works.arbiter.waits = [] → s.works.arbiter.permits 0 = true →
      s.works.stages.stage < 3 → s.works.climate.flame = !seen →
      s.works.climate.heater = .running ∧ seen = false ∧ s.works.driving HFAN = true
        ∨ s.works.climate.heater = .off ∧ seen = true ∧ s.works.resting HFAN = true →
      let again : Bool := match s.works.climate.firstLoss with
        | some first => decide (s.works.vehicle.uptime / 1000 - first ≤ 600)
        | none => false
      let rated := s.works.link.live.load[(7 : Fin 12)].rated
      ∃ t, exec (.flameStateChange seen) s = .next t
        ∧ t.works.climate = { s.works.climate with
            flame := seen
            fanWanted := 1000
            firstLoss := if seen ∨ again then s.works.climate.firstLoss else some (s.works.vehicle.uptime / 1000)
            heater := .purging (if seen then ⟨.stray, 120, 0, .off⟩
              else ⟨.flameLoss, 120, 0, if again then .lockout .flameLoss else .reignite⟩) }
        ∧ t.works.water.heaterCopy = .purging ∧ t.works.out HBRN = s.works.out HBRN
        ∧ (t.works.out HFAN).demand = some (.duty 1000) ∧ (t.works.out HFAN).driven = .on
        ∧ (t.works.out HFAN).grant = some ⟨(rated * 1000 + 999) / 1000, some 1000⟩
        ∧ (∀ o, o ≠ HFAN → t.works.out o = s.works.out o)
        ∧ t.works.lights = s.works.lights ∧ t.works.motion = s.works.motion ∧ t.works.link = s.works.link
        ∧ t.account = s.account) ∧
    (∀ seen : Bool, s.works.climate.flame = !seen →
      (∃ reason, s.works.climate.heater = .lockout reason) ∨ (s.works.climate.heater = .off ∧ seen = false) →
      exec (.flameStateChange seen) s = .next { s with
        inputs := { s.inputs with flame := seen }
        runs := { s.runs with flame := none }
        works := { s.works with climate := { s.works.climate with flame := seen } } }) ∧
    (∀ seen : Bool, s.works.climate.flame = seen → exec (.flameStateChange seen) s = .next { s with
        inputs := { s.inputs with flame := seen }
        runs := { s.runs with flame := none } })

/-- R109, R113 to R116: the ignition timer at 90 s with both outputs driven and nobody waiting: one more failure, the burner
off and given up, HFAN under class 0 at full duty from its live record, and a purge of 60 s that leads to RE-IGNITE, or at
the second failure to LOCKOUT. A thermal stage 2 that revokes HFAN in IGNITING or RUNNING, and a cut of either output, purge
60 s with reason REVOKED to RE-IGNITE; a latch of HBRN in IGNITING purges 120 s with reason FAULT to LOCKOUT, and one of HFAN
is LOCKOUT at once. At the purge time with the flame out, HFAN is off and given up: the heater is OFF with no failures where
no heat is wanted, or in LOCKOUT with HEATER posted. A flame still SEEN keeps the purge running; an ignition or purge time
that is not reached is no expiry, and a cut by a dwell expiry asks only that the timer runs, whatever its value (the model's
choices, log entry 10). That the HEATER detail of a LOCKOUT at the purge's end gives PURGING as the state before is the
model's reading (log entry 22). An uptime in seconds is rounded down (the model's choice, log entry 32). -/
def Obligations.PurgeStartsAndEnds : Prop :=
  ∀ s : State, s.lives = true → s.works.arbiter.waits = [] →
    (∀ timer, s.works.climate.heater = .igniting timer → timer < 90000 → exec .ignitionTimeout s = .next s) ∧
    (∀ timer, s.works.climate.heater = .igniting timer → 90000 ≤ timer → s.works.driving HBRN = true →
      s.works.driving HFAN = true → s.works.arbiter.permits 0 = true →
      let failures := min 2 (s.works.climate.failures + 1)
      let rated := s.works.link.live.load[(7 : Fin 12)].rated
      ∃ t, exec .ignitionTimeout s = .next t
        ∧ t.works.climate = { s.works.climate with
            failures := failures
            fanWanted := 1000
            heater := .purging ⟨.ignitionFail, 60, 0, if 2 ≤ failures then .lockout .ignition else .reignite⟩ }
        ∧ t.works.water.heaterCopy = .purging
        ∧ (t.works.out HBRN).demand = none ∧ (t.works.out HBRN).driven = .off ∧ (t.works.out HBRN).grant = none
        ∧ (t.works.out HFAN).demand = some (.duty 1000) ∧ (t.works.out HFAN).driven = .on
        ∧ (t.works.out HFAN).grant = some ⟨(rated * 1000 + 999) / 1000, some 1000⟩
        ∧ (∀ o, o ≠ HBRN → o ≠ HFAN → t.works.out o = s.works.out o)
        ∧ s.worksOnly t ∧ t.works.lights = s.works.lights ∧ t.works.motion = s.works.motion
        ∧ t.works.link = s.works.link) ∧
    (∀ (x : Int) (o : OutId) (c : Instr), (∃ timer, s.works.climate.heater = .igniting timer) ∧ s.works.driving HBRN = true
        ∨ s.works.climate.heater = .running ∧ s.works.resting HBRN = true →
      s.works.driving HFAN = true → s.works.arbiter.permits 0 = true →
      let r := s.works.fault o .overcurrent
      let mode := (s.works.out o).load.overcurrentMode
      let latched : Prop := mode = .latch ∨ (mode = .retryFast ∧ 4 ≤ min 255 (r.attempts + 1))
      let cut : Prop := c = .overcurrentDwellExpiry o ∧ (s.works.out o).overTimer.isSome
        ∧ (mode = .retryFast ∨ mode = .retrySlow ∨ mode = .latch)
      let purges (t : State) (p : Purge) : Prop := t.works.climate = { s.works.climate with
          fanWanted := 1000
          heater := .purging p }
        ∧ (t.works.out HBRN).demand = none ∧ (t.works.out HBRN).grant = none ∧ (t.works.out HBRN).driven ≠ .on
        ∧ (t.works.out HFAN).demand = some (.duty 1000)
      (c = .channelSample (.tDie x) → 1250 ≤ x → x < 1400 → s.works.stages.stage < 2 → s.scanner.awaited.getLsbD 5 = true →
        s.scanner.adopted[(5 : Fin 9)].enabled = true → s.scanner.adopted[(5 : Fin 9)].minimum ≤ x →
        x ≤ s.scanner.adopted[(5 : Fin 9)].maximum → s.works.arbiter.shedLevel ≤ 4 → s.works.arbiter.sound →
        (∀ g ∈ s.works.arbiter.grants, g.out = HFAN ∨ g.out = HBRN → g.cls ≠ 0) →
        ∃ t, exec c s = .next t ∧ purges t ⟨.revoked, 60, 0, .reignite⟩ ∧ (t.works.out HFAN).driven = .on
          ∧ t.works.water.heaterCopy = .purging) ∧
      (cut → o = HFAN ∨ (o = HBRN ∧ s.works.climate.heater ≠ .running) → ¬latched →
        ∃ t, exec c s = .next t ∧ purges t ⟨.revoked, 60, 0, .reignite⟩
          ∧ (o = HBRN → (t.works.out HFAN).driven = .on) ∧ t.works.water.heaterCopy = .purging) ∧
      (cut → o = HBRN → s.works.climate.heater ≠ .running → latched →
        ∃ t, exec c s = .next t ∧ purges t ⟨.fault, 120, 0, .lockout .hbrnFault⟩ ∧ (t.works.out HFAN).driven = .on
          ∧ t.works.water.heaterCopy = .purging) ∧
      (cut → o = HFAN → latched → ∃ t, exec c s = .next t
        ∧ t.works.climate = { s.works.climate with heater := .lockout .hfanFault }
        ∧ (t.works.out HBRN).demand = none ∧ (t.works.out HBRN).grant = none ∧ (t.works.out HBRN).driven = .off
        ∧ (t.works.out HFAN).demand = none ∧ (t.works.out HFAN).grant = none ∧ (t.works.out HFAN).heldRequest = none
        ∧ t.works.link.causes.heater = some ⟨.hfanFault, s.works.climate.heater.phase, s.works.climate.failures,
            s.works.vehicle.uptime / 1000⟩ ∧ t.works.water.heaterCopy = .lockout)) ∧
    (∀ p : Purge, s.works.climate.heater = .purging p →
      (s.works.climate.flame = true ∨ p.clock < p.seconds * 1000 → exec .purgeEnd s = .next s) ∧
      (s.works.climate.flame = false → p.seconds * 1000 ≤ p.clock → s.works.driving HFAN = true →
        (p.after = .off ∨ p.after = .reignite) ∧ s.works.climate.heatDemand = false
          ∨ (∃ reason, p.after = .lockout reason) ∧ s.works.resting HBRN = true →
        ∃ t, exec .purgeEnd s = .next t ∧ t.works.climate = { s.works.climate with
            heater := match p.after with | .lockout reason => .lockout reason | _ => .off
            failures := match p.after with | .lockout _ => s.works.climate.failures | _ => 0 }
          ∧ t.works.water.heaterCopy = t.works.climate.heater.phase
          ∧ (t.works.out HFAN).demand = none ∧ (t.works.out HFAN).driven = .off ∧ (t.works.out HFAN).grant = none
          ∧ (∀ o, o ≠ HFAN → t.works.out o = s.works.out o)
          ∧ t.works.arbiter = { s.works.arbiter with grants := s.works.arbiter.grants.filter fun r => r.out != HFAN }
          ∧ s.worksOnly t ∧ t.works.lights = s.works.lights ∧ t.works.motion = s.works.motion
          ∧ t.works.link.causes = { s.works.link.causes with heater := match p.after with
              | .lockout reason => some ⟨reason, .purging, s.works.climate.failures, s.works.vehicle.uptime / 1000⟩
              | _ => s.works.link.causes.heater }))

/-- R107, R108, R118, R47: heat demand on in OFF, HBRN and HFAN asking for nothing, the flame NOT SEEN and nobody waiting:
one companion request from the records that both outputs adopt. RESET-HEATER in LOCKOUT with heat wanted, and a cold T_WATER
sample in OFF, make it. With both classes permitted and room for both amounts it is granted whole: both outputs are driven,
HFAN at the fan floor, and the heater is IGNITING with its timer at 0; otherwise it waits with its companion in AWAIT-GRANT.
A release that makes room (AUX switched OFF) serves it, and the heater ignites; demand off (SET-CLIMATE OFF) withdraws it,
and the heater is OFF; that it keeps the ignition failures there is the model's reading (log entry 33). -/
def Obligations.HeaterIgnites : Prop :=
  ∀ s : State, s.listens = true → s.works.climate.flame = false → s.works.stages.stage < 3 →
    let c := s.works.climate
    let a := s.works.arbiter
    let burner := s.works.link.live.load[(8 : Fin 12)]
    let fan := s.works.link.live.load[(7 : Fin 12)]
    let mainCls := burner.cls.getD 0
    let fanCls := fan.cls.getD 0
    let floor := c.adopted.fanFloor
    let fanMa := (fan.rated * floor + 999) / 1000
    let fits (headroom : Nat) : Prop := a.permits mainCls = true ∧ a.permits fanCls = true
      ∧ (if mainCls = 0 then 0 else burner.rated) + (if fanCls = 0 then 0 else fanMa) ≤ headroom
    let entry (arrival time : Nat) : WaitEntry := ⟨HBRN, some ⟨HFAN, fanCls, fanMa, some ⟨fan.rated, floor, floor⟩⟩, mainCls,
      burner.rated, burner.rated, none, .new, arrival, time⟩
    let granted (grants : List GrantRecord) (arrival : Nat) : List GrantRecord :=
      grants ++ [GrantRecord.mk HBRN mainCls burner.rated none burner.rated burner.rated none arrival,
        GrantRecord.mk HFAN fanCls fanMa (some floor) fanMa fanMa (some ⟨fan.rated, floor, floor⟩) arrival]
    let ignites (t : State) : Prop := t.works.climate.heater = .igniting 0 ∧ t.works.climate.fanWanted = floor
      ∧ t.works.water.heaterCopy = .igniting ∧ t.works.water.frost = .stopped
      ∧ (t.works.out HBRN).demand = some .on ∧ (t.works.out HBRN).driven = .on
      ∧ (t.works.out HBRN).grant = some ⟨burner.rated, none⟩
      ∧ (t.works.out HFAN).demand = some (.duty floor) ∧ (t.works.out HFAN).driven = .on
      ∧ (t.works.out HFAN).grant = some ⟨fanMa, some floor⟩
      ∧ t.works.lights = s.works.lights ∧ t.works.motion = s.works.motion ∧ t.account = s.account
    let asked (t : State) : Prop := (t.works.out HBRN).load = burner ∧ (t.works.out HFAN).load = fan
      ∧ t.works.arbiter.arrivals = a.arrivals + 1
      ∧ (∀ o, o ≠ HBRN → o ≠ HFAN → t.works.out o = s.works.out o)
    (s.works.resting HBRN = true → s.works.resting HFAN = true → a.waits = [] →
      (∀ reason, c.heater = .lockout reason → c.heatDemand = true → ∃ t, exec .resetHeater s = .next t
        ∧ t.works.climate.failures = 0 ∧ t.works.climate.firstLoss = none ∧ asked t
        ∧ (∃ summary, t.works.link.sending = some ⟨17, 0x00, summary, []⟩)
        ∧ (fits a.headroom → ignites t ∧ t.works.arbiter.grants = granted a.grants (a.arrivals + 1)
            ∧ t.works.arbiter.waits = [])
        ∧ (¬fits a.headroom → t.works.climate.heater = .awaitGrant ∧ t.works.climate.fanWanted = floor
            ∧ t.works.water.heaterCopy = .awaitGrant ∧ t.works.arbiter.grants = a.grants
            ∧ t.works.arbiter.waits = [entry (a.arrivals + 1) s.works.vehicle.uptime]
            ∧ (t.works.out HBRN).driven = .off ∧ (t.works.out HFAN).driven = .off)) ∧
      (∀ x : Int, c.heater = .off → c.mode ≠ .off → s.scanner.awaited.getLsbD 4 = true →
        s.scanner.adopted[(4 : Fin 9)].enabled = true → s.scanner.adopted[(4 : Fin 9)].minimum ≤ x →
        x ≤ s.scanner.adopted[(4 : Fin 9)].maximum → -550 ≤ x → x ≤ 50 → fits a.headroom →
        ∃ t, exec (.channelSample (.tWater x)) s = .next t ∧ t.works.climate.waterDemand = true ∧ asked t ∧ ignites t
          ∧ t.works.arbiter.grants = granted a.grants (a.arrivals + 1) ∧ t.works.arbiter.waits = [])) ∧
    (∀ arrival time : Nat, c.heater = .awaitGrant → a.waits = [entry arrival time] →
      (s.works.out HBRN).driven = .off → (s.works.out HFAN).driven = .off →
      (s.works.link.auxWanted = true → s.works.driving AUX = true → c.fanWanted = floor → c.heatDemand = true →
        let rest := a.grants.filter fun r => r.out != AUX
        fits (a.ceiling - loadOf rest) → ∃ t, exec (.switch 11 1) s = .next t ∧ ignites t
          ∧ t.works.arbiter.grants = granted rest arrival ∧ t.works.arbiter.waits = []
          ∧ (t.works.out AUX).driven = .off ∧ t.works.link.auxWanted = false) ∧
      (∃ t, exec (.setClimate 0 none) s = .next t ∧ t.works.climate = { c with
            mode := .off
            cabinDemand := false
            waterDemand := false
            heater := .off }
          ∧ t.works.water.heaterCopy = .off ∧ t.works.arbiter = { a with waits := [] }
          ∧ t.works.stages = s.works.stages
          ∧ ∃ summary, t.works.link.sending = some ⟨16, 0x00, summary, u8 0 ++ s16 c.setpoint ++ optS16 none ++ [0]⟩))

/-! ## The water system -/

/-- R130, R131, R133, R135 to R137: OPEN-DRAIN of a CLOSED or failed drain, CLOSE-DRAIN of an open or failed one with warm
water, and the frost expiry of a CLOSED drain at the adopted frost time start a pulse, where DRAIN asks for nothing, nobody
waits and the pump is at rest: DRAIN is granted under class 0 and driven in the pulse's polarity, the pulse has started with
both clocks at 0, and DRAIN is posted with the new state, the state before, the reason, the position and the water copy. -/
def Obligations.DrainPulseStarts : Prop :=
  ∀ (opening : Bool) (c : Instr) (reason : DrainReason) (reply : Option Byte) (s : State), s.lives = true →
    let w := s.works.water
    let a := s.works.arbiter
    let live := s.works.link.live.load[(9 : Fin 12)]
    s.works.resting DRAIN = true → a.waits = [] → live.cls = some 0 → a.permits 0 = true → s.works.stages.stage < 3 →
    w.psw = false → w.pump = .idle → w.dryLatch = false → w.limitLatch = false → s.works.resting PUMP = true →
    (s.works.out PUMP).heldRequest = none → s.works.vehicle.condition ≠ .dormant →
    (c = .openDrain ∧ opening = true ∧ reason = .host ∧ reply = some 18 ∧ s.listens = true ∧ w.position ≠ .opened
        ∧ (w.drain = .closed ∨ w.drain = .fault)
      ∨ c = .closeDrain ∧ opening = false ∧ reason = .host ∧ reply = some 19 ∧ s.listens = true ∧ w.position ≠ .closed
        ∧ (w.drain = .opened ∨ w.drain = .fault) ∧ (∃ t, w.waterCopy.usable = some t ∧ 70 ≤ t)
      ∨ c = .frostExpiry ∧ opening = true ∧ reason = .frost ∧ reply = none ∧ w.position ≠ .opened ∧ w.drain = .closed
        ∧ ∃ t, w.frost = .running t ∧ w.adopted.frostTime * 1000 ≤ t) →
    ∃ t, exec c s = .next t
      ∧ t.works.water = { w with
          drain := if opening then .opening ⟨true, false, 0, 0⟩ else .closing ⟨true, false, 0, 0⟩
          frost := if reply = none then .expired else w.frost
          runTimer := none
          dryTimer := none }
      ∧ t.works.out DRAIN = { s.works.out DRAIN with
          demand := some (.polarity opening)
          grant := some ⟨live.rated, none⟩
          driven := .on
          load := live }
      ∧ (∀ o, o ≠ DRAIN → t.works.out o = s.works.out o)
      ∧ t.works.arbiter = { a with
          arrivals := a.arrivals + 1
          grants := a.grants ++ [GrantRecord.mk DRAIN 0 live.rated none live.rated live.rated none (a.arrivals + 1)] }
      ∧ t.works.link.causes = { s.works.link.causes with drain := some ⟨if opening then .opening else .closing,
          w.drain.state, reason, w.position, w.waterCopy⟩ }
      ∧ (∀ kind, reply = some kind → ∃ summary,
          t.works.link.sending = some ⟨kind, 0x00, summary, [if opening then 1 else 3]⟩)
      ∧ s.worksOnly t ∧ t.works.lights = s.works.lights ∧ t.works.climate = s.works.climate
      ∧ t.works.motion = s.works.motion

/-- R131, R133, R134, R137: the events of a drain pulse. A position that is no pulse's is kept alone. A started pulse,
opening or closing, that finds its target is confirmed, DRAIN given up first where the pulse is not complete; a closing one
confirmed while the frost timer is EXPIRED is CLOSED, and at once an opening pulse starts with reason FROST. At 2 s of its
clock a pulse is complete and DRAIN is given up; a complete pulse whose confirm clock reaches 5 s leaves the drain in FAULT.
The pump is at rest and nobody waits. A pulse or confirm time that is not reached is no expiry, and a target taken before
CONFIRM_WINDOW_EXPIRY confirms whatever the confirm clock (the model's choices, log entry 10). -/
def Obligations.DrainPulseEvents : Prop :=
  ∀ s : State, s.lives = true →
    let w := s.works.water
    (∀ position : DrainPos, w.position ≠ position → w.drain = .closed ∨ w.drain = .opened ∨ w.drain = .fault →
      ∃ t, exec (.drainPositionChange position) s = .next t ∧ t.works = { s.works with water := { w with position := position } }
        ∧ t.scanner = s.scanner ∧ t.account = s.account ∧ t.settings = s.settings) ∧
    (s.works.arbiter.waits = [] → w.psw = false → w.pump = .idle → w.dryLatch = false → w.limitLatch = false →
      s.works.resting PUMP = true → (s.works.out PUMP).heldRequest = none →
      (∀ (p : DrainPulse) (opening : Bool),
        let target : DrainPos := if opening then .opened else .closed
        w.drain = (if opening then .opening p else .closing p) → p.started = true → w.position ≠ target →
        (opening = false → w.frost ≠ .expired) →
        (p.complete = false ∧ s.works.driving DRAIN = true ∨ p.complete = true ∧ s.works.resting DRAIN = true) →
        ∃ t, exec (.drainPositionChange target) s = .next t
          ∧ t.works.water = { w with
              drain := if opening then .opened else .closed
              position := target
              runTimer := none
              dryTimer := none }
          ∧ (t.works.out DRAIN).demand = none ∧ (t.works.out DRAIN).driven = .off ∧ (t.works.out DRAIN).grant = none
          ∧ (∀ o, o ≠ DRAIN → t.works.out o = s.works.out o)
          ∧ t.works.arbiter = { s.works.arbiter with grants := s.works.arbiter.grants.filter fun r => r.out != DRAIN }
          ∧ t.works.link.causes = { s.works.link.causes with drain := some ⟨if opening then .opened else .closed,
              w.drain.state, .confirmed, target, w.waterCopy⟩ }
          ∧ t.works.lights = s.works.lights ∧ t.works.climate = s.works.climate ∧ t.works.motion = s.works.motion) ∧
      (∀ p : DrainPulse, let live := s.works.link.live.load[(9 : Fin 12)]
        w.drain = .closing p → p.started = true → w.position ≠ .closed → w.frost = .expired →
        (p.complete = false ∧ s.works.driving DRAIN = true ∨ p.complete = true ∧ s.works.resting DRAIN = true) →
        live.cls = some 0 → s.works.arbiter.permits 0 = true → s.works.stages.stage < 3 →
        ∃ t, exec (.drainPositionChange .closed) s = .next t
          ∧ t.works.water = { w with
              drain := .opening ⟨true, false, 0, 0⟩
              position := .closed
              runTimer := none
              dryTimer := none }
          ∧ (t.works.out DRAIN).demand = some (.polarity true) ∧ (t.works.out DRAIN).grant = some ⟨live.rated, none⟩
          ∧ (t.works.out DRAIN).driven = .on ∧ (t.works.out DRAIN).load = live
          ∧ (∀ o, o ≠ DRAIN → t.works.out o = s.works.out o)
          ∧ t.works.link.causes = { s.works.link.causes with
              drain := some ⟨.opening, .closed, .frost, .closed, w.waterCopy⟩ }
          ∧ t.works.lights = s.works.lights ∧ t.works.climate = s.works.climate ∧ t.works.motion = s.works.motion) ∧
      (∀ p : DrainPulse, w.drain = .opening p ∨ w.drain = .closing p → p.started = true → p.complete = false →
        2000 ≤ p.clock → s.works.driving DRAIN = true →
        ∃ t, exec .pulseComplete s = .next t
          ∧ t.works.water.drain.pulse? = some { p with complete := true }
          ∧ t.works.water = { w with drain := t.works.water.drain } ∧ t.works.water.drain.state = w.drain.state
          ∧ (t.works.out DRAIN).demand = none ∧ (t.works.out DRAIN).driven = .off ∧ (t.works.out DRAIN).grant = none
          ∧ (∀ o, o ≠ DRAIN → t.works.out o = s.works.out o)
          ∧ t.works.arbiter = { s.works.arbiter with grants := s.works.arbiter.grants.filter fun r => r.out != DRAIN }
          ∧ s.worksOnly t ∧ t.works.link = s.works.link) ∧
      (∀ p : DrainPulse, w.drain = .opening p ∨ w.drain = .closing p → p.complete = true → 5000 ≤ p.confirm →
        ∃ t, exec .confirmWindowExpiry s = .next t
          ∧ t.works.water = { w with drain := .fault, runTimer := none, dryTimer := none }
          ∧ t.works.link.causes = { s.works.link.causes with
              drain := some ⟨.fault, w.drain.state, .noConfirm, w.position, w.waterCopy⟩ }
          ∧ t.works.stages = s.works.stages ∧ t.works.arbiter = s.works.arbiter ∧ s.worksOnly t)) ∧
    ((∀ p, w.drain.pulse? = some p → p.started = false ∨ p.complete = true ∨ p.clock < 2000) →
      exec .pulseComplete s = .next s) ∧
    ((∀ p, w.drain.pulse? = some p → p.complete = false ∨ p.confirm < 5000) → exec .confirmWindowExpiry s = .next s)

/-- R125 to R129: the pressure switch closes with nothing in the way, PUMP asking for nothing, nobody waiting and room for
it: PUMP is granted and driven, the pump RUNNING with its run timer at 0, and its dry timer where the fresh band is 0. It
opens while the pump runs: the pump is IDLE and PUMP given up. The dry timer at 15 s and the run timer at the adopted run
limit stop a running pump with their latch and post WATER with their reason; a timer that is short of its limit, or does not
run, is no expiry (the model's choice, log entry 10). -/
def Obligations.PumpMoves : Prop :=
  ∀ s : State, s.lives = true → s.works.arbiter.waits = [] → s.works.vehicle.condition ≠ .dormant →
    let w := s.works.water
    let a := s.works.arbiter
    let live := s.works.link.live.load[(6 : Fin 12)]
    let cls := live.cls.getD 0
    w.dryLatch = false → w.limitLatch = false →
    (∀ band, w.psw = false → w.pump = .idle → w.greyFull = false → w.drain = .closed → w.fresh.accepted = some band →
      s.works.resting PUMP = true → (s.works.out PUMP).heldRequest = none → s.works.stages.stage < 3 →
      a.permits cls = true → (cls = 0 ∨ live.rated ≤ a.headroom) →
      ∃ t, exec (.pswChange true) s = .next t
        ∧ t.works.water = { w with
            psw := true
            pump := .running
            runTimer := some 0
            dryTimer := if band = 0 then some 0 else none }
        ∧ t.works.out PUMP = { s.works.out PUMP with
            demand := some .on
            grant := some ⟨live.rated, none⟩
            driven := .on
            load := live }
        ∧ (∀ o, o ≠ PUMP → t.works.out o = s.works.out o)
        ∧ t.works.arbiter = { a with
            arrivals := a.arrivals + 1
            grants := a.grants ++ [GrantRecord.mk PUMP cls live.rated none live.rated live.rated none (a.arrivals + 1)] }
        ∧ t.works.link = s.works.link ∧ t.works.climate = s.works.climate ∧ t.works.motion = s.works.motion) ∧
    (s.works.driving PUMP = true → w.pump = .running →
      (w.psw = true → ∃ t, exec (.pswChange false) s = .next t
        ∧ t.works.water = { w with psw := false, pump := .idle, runTimer := none, dryTimer := none }
        ∧ (t.works.out PUMP).demand = none ∧ (t.works.out PUMP).driven = .off ∧ (t.works.out PUMP).grant = none
        ∧ (∀ o, o ≠ PUMP → t.works.out o = s.works.out o)
        ∧ t.works.arbiter = { a with grants := a.grants.filter fun r => r.out != PUMP }
        ∧ t.works.link = s.works.link) ∧
      (∀ (c : Instr) (t : Nat), c = .dryRunExpiry ∧ w.dryTimer = some t ∧ 15000 ≤ t
          ∨ c = .runLimitExpiry ∧ w.runTimer = some t ∧ w.adopted.runLimit * 1000 ≤ t →
        ∃ t, exec c s = .next t
          ∧ t.works.water = { w with
              dryLatch := decide (c = .dryRunExpiry)
              limitLatch := decide (c = .runLimitExpiry)
              pump := if c = .dryRunExpiry then .dryStop else .limitStop
              runTimer := none
              dryTimer := none }
          ∧ (t.works.out PUMP).demand = none ∧ (t.works.out PUMP).driven = .off ∧ (t.works.out PUMP).grant = none
          ∧ (∀ o, o ≠ PUMP → t.works.out o = s.works.out o)
          ∧ t.works.arbiter = { a with grants := a.grants.filter fun r => r.out != PUMP }
          ∧ (∃ d, t.works.link.causes.water = some d ∧ d.pump = t.works.water.pump
              ∧ d.reasons.getLsbD (if c = .dryRunExpiry then 3 else 4) = true)
          ∧ s.worksOnly t ∧ t.works.climate = s.works.climate ∧ t.works.motion = s.works.motion)) ∧
    ((∀ t, w.dryTimer = some t → t < 15000) → exec .dryRunExpiry s = .next s) ∧
    ((∀ t, w.runTimer = some t → t < w.adopted.runLimit * 1000) → exec .runLimitExpiry s = .next s)

/-! ## The output stages -/

/-- R67 to R70, R74: a refresh of an output that is driven above duty 0 keeps the measured current (at most 40 000 mA); one
within the trip and at or above the open threshold stops both timers, returns an ACTIVE OVERCURRENT or OPEN record to CLEAR
and posts nothing; the first one above the trip and within twice it starts the over-trip timer. A refresh of an output that
is not driven, or at duty 0, measures 0 and stops both timers (at duty 0 while it is ON the model's reading, log entry 18).
MOTOR while it drives a move is shut out: its refresh is the stall test too (R151). -/
def Obligations.CurrentRefreshes : Prop :=
  ∀ (o : OutId) (mA : Nat) (s : State), s.lives = true → (o = MOTOR → ∀ h, s.works.motion.stage ≠ .driving h) →
    let x := s.works.out o
    let inputs : Inputs := { s.inputs with currents := s.inputs.currents.set o mA }
    (s.works.onDuty o = 0 → ∃ t, exec (.currentRefresh o mA) s = .next t
      ∧ t.works.out o = { x with current := 0, overTimer := none, openTimer := none }
      ∧ (∀ p, p ≠ o → t.works.out p = s.works.out p) ∧ t.works.stages.faults = s.works.stages.faults
      ∧ t.inputs = inputs ∧ t.works.arbiter = s.works.arbiter ∧ t.works.link = s.works.link) ∧
    (s.works.onDuty o ≠ 0 → (∀ threshold, x.load.openThreshold = some threshold → threshold ≤ min 40000 mA) →
      (min 40000 mA ≤ x.load.trip → ∃ t, exec (.currentRefresh o mA) s = .next t
        ∧ t.works.out o = { x with
            current := min 40000 mA
            overTimer := none
            openTimer := if x.load.openThreshold.isSome then none else x.openTimer }
        ∧ (∀ p, p ≠ o → t.works.out p = s.works.out p)
        ∧ (t.works.fault o .overcurrent) = { s.works.fault o .overcurrent with
            state := if (s.works.fault o .overcurrent).state = .active then .clear else (s.works.fault o .overcurrent).state }
        ∧ t.works.fault o .short = s.works.fault o .short
        ∧ t.works.fault o .openLoad = { s.works.fault o .openLoad with
            state := if (s.works.fault o .openLoad).state = .active ∧ x.load.openThreshold.isSome then .clear
              else (s.works.fault o .openLoad).state }
        ∧ (∀ (p : OutId) k, p ≠ o → t.works.fault p k = s.works.fault p k)
        ∧ t.inputs = inputs ∧ t.works.arbiter = s.works.arbiter ∧ t.works.link = s.works.link) ∧
      (x.load.trip < min 40000 mA → min 40000 mA ≤ 2 * x.load.trip → x.overTimer = none →
        ∃ t, exec (.currentRefresh o mA) s = .next t
          ∧ t.works.out o = { x with
              current := min 40000 mA
              overTimer := some 0
              openTimer := if x.load.openThreshold.isSome then none else x.openTimer }
          ∧ (∀ p, p ≠ o → t.works.out p = s.works.out p)
          ∧ t.works.fault o .overcurrent = { s.works.fault o .overcurrent with clean := 0 }
          ∧ t.inputs = inputs ∧ t.works.arbiter = s.works.arbiter ∧ t.works.link = s.works.link))

/-- R66, R68 to R71, R75, section 4.6: what an occurrence does by the fault mode of its cause. An over-trip timer that runs
out under REPORT or IGNORE, and an open timer likewise, counts one more occurrence, stamps it, and under REPORT makes a CLEAR
record ACTIVE and posts FAULT; the output stays driven and its timer ends. Either of them, and at once a refresh above twice
the trip (SHORT), each under RETRY-FAST, RETRY-SLOW or LATCH of its cause, cuts any output, whoever owns it: with nobody
waiting, it is off with no grant and no current, its record counts one more attempt and occurrence, and it is in CUT-WAIT for
1 s or 30 s (RETRYING), or, under LATCH and at RETRY-FAST's fourth attempt, LATCHED; FAULT carries the cut with the current
at the cut. For SHORT, MOTOR while it drives a move is shut out, its refresh being the stall test too (R151). Where the timer
does not run there is no expiry, and where it runs its value is not asked (the model's choices, log entry 10). An uptime in
seconds is rounded down (the model's choice, log entry 32). -/
def Obligations.OccurrencesFollowTheirMode : Prop :=
  (∀ (o : OutId) (cause : FaultCause) (c : Instr) (timer : Option Nat) (s : State), s.lives = true →
    let x := s.works.out o
    let r := s.works.fault o cause
    (c = .overcurrentDwellExpiry o ∧ cause = .overcurrent ∧ timer = x.overTimer
      ∨ c = .openTimerExpiry o ∧ cause = .openLoad ∧ timer = x.openTimer) →
    (timer = none → exec c s = .next s) ∧
    (timer.isSome → x.load.mode cause = .report ∨ x.load.mode cause = .ignore → ∃ t, exec c s = .next t
      ∧ t.works.out o = { x with
          overTimer := if cause = .overcurrent then none else x.overTimer
          openTimer := if cause = .openLoad then none else x.openTimer }
      ∧ (∀ p, p ≠ o → t.works.out p = s.works.out p)
      ∧ t.works.fault o cause = { r with
          occurrences := min 255 (r.occurrences + 1)
          stamp := some (s.works.vehicle.uptime / 1000)
          state := if x.load.mode cause = .report ∧ r.state = .clear then .active else r.state }
      ∧ (∀ k, k ≠ cause → t.works.fault o k = s.works.fault o k)
      ∧ (x.load.mode cause = .ignore → t.works.link = s.works.link)
      ∧ (x.load.mode cause = .report → ∃ outs, t.works.link.causes.fault = some ⟨outs, o, cause,
            (t.works.fault o cause).state, r.attempts, x.current⟩ ∧ outs.getLsbD o.val = true)
      ∧ t.works.arbiter = s.works.arbiter ∧ s.worksOnly t ∧ t.works.lights = s.works.lights
      ∧ t.works.climate = s.works.climate ∧ t.works.water = s.works.water ∧ t.works.motion = s.works.motion)) ∧
  (∀ (o : OutId) (cause : FaultCause) (c : Instr) (current : Nat) (s : State), s.lives = true →
    s.works.arbiter.waits = [] → s.works.driving o = true →
    let x := s.works.out o
    let r := s.works.fault o cause
    let mode := x.load.mode cause
    let attempts := min 255 (r.attempts + 1)
    let latched : Prop := mode = .latch ∨ (mode = .retryFast ∧ 4 ≤ attempts)
    (c = .overcurrentDwellExpiry o ∧ cause = .overcurrent ∧ x.overTimer.isSome ∧ current = x.current
      ∨ c = .openTimerExpiry o ∧ cause = .openLoad ∧ x.openTimer.isSome ∧ current = x.current
      ∨ (∃ mA, c = .currentRefresh o mA ∧ cause = .short ∧ s.works.onDuty o ≠ 0 ∧ current = min 40000 mA
          ∧ 2 * x.load.trip < current ∧ (o = MOTOR → ∀ h, s.works.motion.stage ≠ .driving h))) →
    (mode = .retryFast ∨ mode = .retrySlow ∨ mode = .latch) →
    ∃ t, exec c s = .next t
      ∧ (latched → (t.works.out o).driven = .latched)
      ∧ (¬latched → (t.works.out o).driven = .cutWait (.timing (if mode = .retrySlow then 30000 else 1000)))
      ∧ (t.works.out o).grant = none ∧ (t.works.out o).current = 0
      ∧ (t.works.fault o cause).attempts = attempts
      ∧ (t.works.fault o cause).occurrences = min 255 (r.occurrences + 1)
      ∧ (t.works.fault o cause).stamp = some (s.works.vehicle.uptime / 1000)
      ∧ (latched → (t.works.fault o cause).state = .latched)
      ∧ (¬latched → (t.works.fault o cause).state = .retrying)
      ∧ (∃ outs, t.works.link.causes.fault = some ⟨outs, o, cause, (t.works.fault o cause).state, attempts, current⟩
          ∧ outs.getLsbD o.val = true)
      ∧ s.worksOnly { t with inputs := s.inputs }
      ∧ (cause ≠ .short → t.inputs = s.inputs))

/-- R73, R66, R64, R80, R74: the retry time of an output in CUT-WAIT runs out. With no held request it is OFF, and a light
channel takes DROPPED with stance NONE. AUX with a held request, nobody waiting, and room for it, is granted again under
the live limits and driven, its held request gone (the model's reading, log entry 18). The clean timer of a RETRYING record
of an ON output, at 60 s, clears the record. A retry time or a clean timer that is not over is no expiry (the model's choice,
log entry 10). -/
def Obligations.RetriesAndCleans : Prop :=
  ∀ (o : OutId) (s : State), s.lives = true →
    let x := s.works.out o
    (x.driven = .cutWait (.timing 0) → x.heldRequest = none →
      ∃ t, exec (.retryExpiry o) s = .next t ∧ t.works.out o = { x with driven := .off }
        ∧ (∀ p, p ≠ o → t.works.out p = s.works.out p)
        ∧ (∀ ch : LightId, t.works.light ch =
            if lightOut ch = o then { s.works.light ch with stance := .none } else s.works.light ch)
        ∧ t.works.arbiter = s.works.arbiter ∧ t.works.stages.faults = s.works.stages.faults ∧ t.works.link = s.works.link
        ∧ t.works.climate = s.works.climate ∧ t.works.water = s.works.water ∧ t.works.motion = s.works.motion
        ∧ s.worksOnly t) ∧
    (∀ h : HeldRequest, o = AUX → x.driven = .cutWait (.timing 0) → x.heldRequest = some h →
      h.prop = none → x.demand = some .on → s.works.arbiter.knows AUX = false → s.works.arbiter.waits = [] →
      s.works.stages.stage < 3 → s.works.arbiter.permits h.cls = true →
      (h.cls = 0 ∨ h.requested ≤ s.works.arbiter.headroom) →
      let live := s.works.link.live.load[(11 : Fin 12)]
      ∃ t, exec (.retryExpiry o) s = .next t
        ∧ t.works.out o = { x with
            driven := .on
            grant := some ⟨h.requested, none⟩
            heldRequest := none
            load := { x.load with
              trip := live.trip
              dwell := live.dwell
              openThreshold := live.openThreshold
              overcurrentMode := live.overcurrentMode
              shortMode := live.shortMode
              openMode := live.openMode } }
        ∧ (∀ p, p ≠ o → t.works.out p = s.works.out p)
        ∧ t.works.arbiter = { s.works.arbiter with
            arrivals := s.works.arbiter.arrivals + 1
            grants := s.works.arbiter.grants ++ [GrantRecord.mk AUX h.cls h.requested none h.requested h.floor none
              (s.works.arbiter.arrivals + 1)] }
        ∧ t.works.link = s.works.link ∧ s.worksOnly t) ∧
    (x.driven ≠ .cutWait (.timing 0) → exec (.retryExpiry o) s = .next s) ∧
    (∀ cause : FaultCause, let r := s.works.fault o cause
      (r.state = .retrying → x.driven = .on → 60000 ≤ r.clean → ∃ t, exec (.cleanTimerExpiry o cause) s = .next t
        ∧ t.works.fault o cause = { r with state := .clear, attempts := 0, clean := 0 }
        ∧ (∀ k, k ≠ cause → t.works.fault o k = s.works.fault o k)
        ∧ (∀ (p : OutId) k, p ≠ o → t.works.fault p k = s.works.fault p k)
        ∧ t.works.stages.outs = s.works.stages.outs ∧ t.works.link = s.works.link
        ∧ t.works.arbiter = s.works.arbiter ∧ s.worksOnly t) ∧
      (r.state ≠ .retrying ∨ x.driven ≠ .on ∨ r.clean < 60000 → exec (.cleanTimerExpiry o cause) s = .next s))

/-- R76, R77: CLEAR-FAULT of a record that exists: a CLEAR record is OK and nothing moves; a RETRYING one becomes CLEAR with
no attempts; an ACTIVE one, and a LATCHED one whose condition the load check still finds, is STILL-PRESENT and nothing is
applied; a LATCHED one of any output whose condition is gone becomes CLEAR with no attempts; while another of the output's
records is LATCHED the output stays LATCHED, and with no other LATCHED record, no held request, nothing of it at the arbiter
and nobody waiting there (and for MOTOR an empty queue) it is then OFF. An output, a cause or a pairing that does not
exist is refused ILLEGAL; the field numbers of these refusals are the model's choice (log entry 17). -/
def Obligations.ClearFaultAnswers : Prop :=
  ∀ (output : Byte) (load : LoadCheck) (s : State), s.listens = true →
    let s' : State := { s with inputs := { s.inputs with loads := putAt output.toNat load s.inputs.loads } }
    (12 ≤ output.toNat → ∀ k : Byte, exec (.clearFault output k load) s = .next (s'.refusedWith 20 0x83 [0xFF, 0])) ∧
    (output.toNat < 12 → ∀ k : Byte, 3 ≤ k.toNat → exec (.clearFault output k load) s =
      .next (s'.refusedWith 20 0x83 [0xFF, 1])) ∧
    (∀ o : OutId, output = BitVec.ofNat 8 o.val →
      (o ∈ [HFAN, HBRN, MOTOR, AUX] → exec (.clearFault output 2 load) s = .next (s'.refusedWith 20 0x83 [0xFF, 1])) ∧
      (∀ cause : FaultCause, (cause = .openLoad → o ∉ [HFAN, HBRN, MOTOR, AUX]) →
        let c := Instr.clearFault output (BitVec.ofNat 8 (causeIndex cause)) load
        let r := s.works.fault o cause
        let present := (load = .shorted ∧ cause ≠ .openLoad) ∨ (load = .openLoad ∧ cause = .openLoad)
        (r.state = .clear → exec c s = .next (s'.heard.answered 20 0x00 []))
        ∧ (r.state = .active ∨ (r.state = .latched ∧ present) → exec c s = .next (s'.refusedWith 20 0x86 []))
        ∧ (r.state = .retrying → ∃ t, exec c s = .next t
            ∧ t.works.fault o cause = { r with state := .clear, attempts := 0, clean := 0 }
            ∧ (∀ k, k ≠ cause → t.works.fault o k = s.works.fault o k)
            ∧ t.works.stages.outs = s.works.stages.outs
            ∧ (∃ summary, t.works.link.sending = some ⟨20, 0x00, summary, []⟩)
            ∧ t.works.arbiter = s.works.arbiter ∧ t.works.link.causes = s.works.link.causes ∧ t.account = s.account)
        ∧ (r.state = .latched → ¬present → (s.works.out o).driven = .latched →
            let others : Prop := ∃ k, k ≠ cause ∧ (s.works.fault o k).state = .latched
            (others ∨ (s.works.out o).heldRequest = none ∧ (s.works.out o).grant = none
              ∧ s.works.arbiter.knows o = false ∧ s.works.arbiter.waits = []
              ∧ (o = MOTOR → s.works.motion.queue = [])) →
            ∃ t, exec c s = .next t ∧ t.works.fault o cause = { r with state := .clear, attempts := 0, clean := 0 }
              ∧ (∀ (p : OutId) k, (p, k) ≠ (o, cause) → t.works.fault p k = s.works.fault p k)
              ∧ (others → t.works.stages.outs = s.works.stages.outs)
              ∧ (¬others → t.works.out o = { s.works.out o with driven := .off }
                  ∧ ∀ p, p ≠ o → t.works.out p = s.works.out p)
              ∧ (∃ summary, t.works.link.sending = some ⟨20, 0x00, summary, []⟩)
              ∧ t.works.arbiter = s.works.arbiter ∧ t.works.link.causes = s.works.link.causes)))

/-! ## The scanner and the Energy Account -/

/-- R3, R5, R6, R10: a pass start, at its time, that disables no channel: the pass counter goes on by one (65 535 to 0), the
next pass start is one period away, 8 s in DORMANT and 500 ms otherwise, the pass carries the period chosen at the start
before it, the live CHANNEL-SETUP is adopted, and the WIND count is read, where the channel was and stays enabled, and
restarts. A wind pulse adds one to an enabled channel's count, up to 65 535. R1, R2, R4, R8, R17: a channel's sample, once in
a pass. Each of the four temperature channels takes the input clamped to its range, and its Reading moves by the table of R4:
plausible, VALID with it; else VALID to HELD, HELD to HELD within its hold passes, then INVALID; INVALID stays. T_BANK's
publication moves the account's copy alone; a disabled channel moves nothing; a probe group with a wet probe above a dry one
is INVALID at once, its raw sample the probes as they stand. R14: with no pass in hand, as after a reset, no channel is
sampled. A pass start before its time, and a channel's second sample in a pass, move nothing (the model's choice, log entry
10). -/
def Obligations.PassStartsAndSamples : Prop :=
  (∀ s : State, s.lives = true →
    let live := s.works.link.live.channel
    (s.scanner.untilPass ≠ 0 → exec .passStart s = .next s) ∧
    (s.scanner.untilPass = 0 → (∀ ch : Fin 9, s.scanner.adopted[ch].enabled = true → live[ch].enabled = true) →
    exec .passStart s = .next { s with scanner := { s.scanner with
      adopted := live
      passCounter := (s.scanner.passCounter + 1) % 65536
      passLength := s.scanner.period
      period := if s.works.vehicle.condition = .dormant then 8000 else 500
      untilPass := if s.works.vehicle.condition = .dormant then 8000 else 500
      windCount := 0
      windSample := if s.scanner.adopted[(8 : Fin 9)].enabled then some s.scanner.windCount else none
      awaited := 0x01FF#16 } })) ∧
  (∀ (bv bi : Int) (s : State), s.lives = true → s.scanner.awaited.getLsbD 0 = false →
    exec (.bankPair bv bi) s = .next { s with inputs := { s.inputs with bv := bv, bi := bi } }) ∧
  (∀ s : State, s.lives = true → exec .windPulse s = .next (
    if s.scanner.adopted[(8 : Fin 9)].enabled then
      { s with scanner := { s.scanner with windCount := min 65535 (s.scanner.windCount + 1) } }
    else s)) ∧
  (∀ s : State, s.lives = true →
      (∀ (ch : Fin 9) (x high : Int) (input : ChannelInput),
        (input = .tBank x ∧ ch = 2 ∧ high = 1500 ∨ input = .tCabin x ∧ ch = 3 ∧ high = 1500
          ∨ input = .tWater x ∧ ch = 4 ∧ high = 1500 ∨ input = .tDie x ∧ ch = 5 ∧ high = 1750) →
        let inputs := channelPins s.inputs input
        let setup := s.scanner.adopted[ch]
        let y := max (-550) (min high x)
        let old := s.scanner.channels[ch]
        let reading : Reading × Nat :=
          if setup.minimum ≤ y ∧ y ≤ setup.maximum then (.valid y, 0)
          else match old.reading with
            | .valid v => (.held v, 1)
            | .held v => if old.hold < setup.holdPasses then (.held v, old.hold + 1) else (.invalid, 0)
            | .invalid => (.invalid, 0)
        let awaits := s.scanner.awaited.getLsbD ch.val
        let scanner : Scanner := { s.scanner with
          channels := s.scanner.channels.set ch ⟨reading.1, reading.2, some (.sample y)⟩
          awaited := s.scanner.awaited &&& ~~~BitVec.ofNat 16 (2 ^ ch.val) }
        (awaits = true → setup.enabled = true → ∃ t, exec (.channelSample input) s = .next t ∧ t.scanner = scanner
          ∧ t.inputs = inputs)
        ∧ (awaits = true → setup.enabled = true → ch = 2 → exec (.channelSample input) s = .next { s with
            inputs := inputs
            scanner := scanner
            account := { s.account with bankTemp := reading.1 } })
        ∧ (awaits = false ∨ setup.enabled = false → exec (.channelSample input) s = .next { s with inputs := inputs })) ∧
      (∀ p25 p50 p75 p100 : Bool, s.scanner.awaited.getLsbD 6 = true → s.scanner.adopted[(6 : Fin 9)].enabled = true →
        (p50 = true ∧ p25 = false ∨ p75 = true ∧ p50 = false ∨ p100 = true ∧ p75 = false) →
        ∃ t, exec (.channelSample (.fresh p25 p50 p75 p100)) s = .next t
          ∧ t.scanner.channels[(6 : Fin 9)] = ⟨.invalid, 0,
              some (.ladder (p25.toNat + 2 * p50.toNat + 4 * p75.toNat + 8 * p100.toNat))⟩))

/-- R78, R79: a T_DIE sample of the pass in hand moves the thermal stage: a usable reading raises it at once to the highest
stage whose entry threshold it has reached, or lowers it past each leave value; an INVALID one makes it 2, or keeps 3. A
stage that does not change, after the first computation, moves nothing but the last T_DIE taken. Otherwise the arbiter has
the new stage, THERMAL carries it with the reading, the THERMAL record follows (ACTIVE and counted on a rise from 0, its
attempts the highest stage, CLEAR at 0), and entering stage 3 leaves no output ON. The part is awake. An uptime in seconds is
rounded down (the model's choice, log entry 32). -/
def Obligations.ThermalStageFollowsDie : Prop :=
  ∀ (x : Int) (s : State), s.lives = true → s.scanner.awaited.getLsbD 5 = true →
    s.scanner.adopted[(5 : Fin 9)].enabled = true → s.works.vehicle.condition ≠ .dormant → s.works.stages.stage ≤ 3 →
    ∃ t, exec (.channelSample (.tDie x)) s = .next t
      ∧ (let r := t.scanner.channels[(5 : Fin 9)].reading
         let k := s.works.stages.stage
         let record := s.works.stages.thermal
         let stage := match r.usable with
           | some v =>
             if 1400 ≤ v then 3
             else if 1250 ≤ v ∧ k < 2 then 2
             else if 1100 ≤ v ∧ k < 1 then 1
             else if k = 3 ∧ 1300 ≤ v then 3 else if 2 ≤ k ∧ 1150 ≤ v then 2 else if 1 ≤ k ∧ 1000 ≤ v then 1 else 0
           | none => if k = 3 then 3 else 2
         t.works.stages.lastDie = r ∧ t.works.stages.stage = stage ∧ t.works.stages.staged = true
         ∧ t.account = s.account ∧ t.settings = s.settings ∧ t.pending = s.pending
         ∧ (stage = k → s.works.stages.staged = true → t.works = { s.works with
              stages := { s.works.stages with lastDie := r } })
         ∧ (stage ≠ k ∨ s.works.stages.staged = false →
              t.works.link.causes.thermal = some ⟨stage, r⟩ ∧ t.works.arbiter.stage = stage
              ∧ t.works.stages.thermal = (if k < stage then { record with
                    attempts := max record.attempts stage
                    occurrences := if k = 0 then min 255 (record.occurrences + 1) else record.occurrences
                    stamp := if k = 0 then some (s.works.vehicle.uptime / 1000) else record.stamp
                    state := if k = 0 then .active else record.state }
                  else if stage = 0 then { record with state := .clear, attempts := 0 } else record)
              ∧ (stage = 3 → k ≠ 3 → ∀ o : OutId, (t.works.out o).driven ≠ .on)))

/-- R123, R124, R128, R157: what a tank's and the wind's sample of the pass in hand moves. Each tank filter takes the slosh
length of the condition; a band counts its run and is accepted at that length; the fortieth INVALID reading in a row makes
the accepted band UNKNOWN. A changed fresh band, and a dry latch cleared by a band of 1 or more, post WATER with their
reasons; grey full rises with band 2, falls at the sixth reading below it, and each change posts WATER. A sample that changes
none of these, nor reaches the run limit, moves the filter alone. The wind window takes an over flag while PARKED or DORMANT
at or above the limit; the hold starts at three over flags of six and is restarted by each; AWN out, it makes an AUTO RETRACT
of AWN, and a queued HOST EXTEND of AWN is DENIED for WIND. That an unusable WIND Reading keeps the last speed, that every
passing test raises the AUTO RETRACT, and that the queued entry is dropped before it, is the model's reading (log entry
15). -/
def Obligations.TanksAndWindFollowTheirSamples : Prop :=
  ∀ s : State, s.lives = true →
    let w := s.works.water
    let m := s.works.motion
    let taken (ch : Fin 9) : Prop := s.scanner.awaited.getLsbD ch.val = true ∧ s.scanner.adopted[ch].enabled = true
    let slosh : Nat := if s.works.vehicle.condition = .driving then 40 else 6
    let filtered (tank : Tank) (r : Reading) : Tank := match r.usable with
      | some b =>
        let run := if tank.candidate = some b.toNat then min 40 (tank.run + 1) else 1
        { tank with
          candidate := some b.toNat
          run := run
          invalid := 0
          slosh := slosh
          accepted := if slosh ≤ run then some b.toNat else tank.accepted }
      | none => { tank with
          candidate := none
          run := 0
          invalid := min 40 (tank.invalid + 1)
          slosh := slosh
          accepted := if 39 ≤ tank.invalid then none else tank.accepted }
    (∀ a b c d : Bool, taken 6 → ∃ t, exec (.channelSample (.fresh a b c d)) s = .next t
      ∧ (let tank := filtered w.fresh t.scanner.channels[(6 : Fin 9)].reading
         let limit := s.works.link.live.water.runLimit
         let changes : Prop := tank.accepted ≠ w.fresh.accepted
         let rearms : Prop := w.dryLatch = true ∧ ∃ b, tank.accepted = some b ∧ 1 ≤ b
         t.works.water.fresh = tank ∧ t.works.water.grey = w.grey ∧ t.works.water.greyFull = w.greyFull
         ∧ t.works.water.adopted = { w.adopted with runLimit := limit }
         ∧ (rearms → t.works.water.dryLatch = false) ∧ (¬rearms → t.works.water.dryLatch = w.dryLatch)
         ∧ (changes ∨ rearms → ∃ d, t.works.link.causes.water = some d ∧ d.fresh = tank.accepted
              ∧ (changes → d.reasons.getLsbD 0 = true) ∧ (rearms → d.reasons.getLsbD 5 = true))
         ∧ (¬changes → ¬rearms → (∀ ran, w.runTimer = some ran → ran < limit * 1000) →
              t.works = { s.works with water := { w with
                fresh := tank
                adopted := { w.adopted with runLimit := limit } } }))) ∧
    (∀ a b : Bool, taken 7 → ∃ t, exec (.channelSample (.grey a b)) s = .next t
      ∧ (let r := t.scanner.channels[(7 : Fin 9)].reading
         let tank := filtered w.grey r
         let judged : Nat × Bool :=
           if tank.accepted = some 2 then (0, true)
           else if tank.accepted = none ∨ r.usable = none then (w.below, w.greyFull)
           else (min 6 (w.below + 1), if 5 ≤ w.below then false else w.greyFull)
         t.works.water.grey = tank ∧ t.works.water.below = judged.1 ∧ t.works.water.greyFull = judged.2
         ∧ t.works.water.fresh = w.fresh
         ∧ (judged.2 ≠ w.greyFull → ∃ d, t.works.link.causes.water = some d ∧ d.reasons.getLsbD 1 = true
              ∧ d.greyFull = judged.2)
         ∧ (judged.2 = w.greyFull → t.works = { s.works with water := { w with
              grey := tank
              below := judged.1
              greyFull := judged.2 } }))) ∧
    (taken 8 → ∃ t, exec (.channelSample .wind) s = .next t
      ∧ (let speed : Option Nat := t.scanner.channels[(8 : Fin 9)].reading.usable.map fun c =>
           c.toNat * m.adopted.windScale * 100 / s.scanner.passLength
         let exceeds : Bool := decide (s.works.vehicle.condition = .parked ∨ s.works.vehicle.condition = .dormant)
           && speed.any fun v => decide (m.adopted.windLimit ≤ v)
         let window := m.window.drop 1 ++ [exceeds]
         let passes : Prop := exceeds = true ∧ 3 ≤ window.count true
         let told : Motion := { m with
           speed := if speed.isSome then speed else m.speed
           window := window
           windHold := if passes then some 600000 else if exceeds then m.windHold.map fun _ => 600000 else m.windHold }
         t.works.motion.speed = told.speed ∧ t.works.motion.window = window ∧ t.works.motion.windHold = told.windHold
         ∧ (¬passes → t.works = { s.works with motion := told })
         ∧ (passes → m.awn.state = .retracted → m.queue = [] → t.works = { s.works with motion := told })
         ∧ (passes → m.awn.state ≠ .retracted → m.stage = .idle → m.queue = [] → s.works.resting MOTOR = true →
              s.works.arbiter.waits = [] → s.works.arbiter.permits 0 = true → m.last ≠ some (.awn, .retract) →
              t.works.motion = { told with stage := .pausing ⟨⟨.awn, .retract, .auto .wind, s.works.vehicle.uptime⟩,
                if m.last = some (.awn, .extend) then 300 else 200, none, 0, 0, false⟩ }
              ∧ (t.works.out MOTOR).grant = some ⟨s.works.link.live.load[(10 : Fin 12)].rated, none⟩
              ∧ t.works.arbiter.grants = s.works.arbiter.grants ++ [GrantRecord.mk MOTOR 0
                  s.works.link.live.load[(10 : Fin 12)].rated none s.works.link.live.load[(10 : Fin 12)].rated
                  s.works.link.live.load[(10 : Fin 12)].rated none (s.works.arbiter.arrivals + 1)])
         ∧ (∀ time, passes → m.awn.state = .retracted → m.stage = .held → m.queue = [⟨.awn, .extend, .host, time⟩] →
              t.works.motion = { told with queue := [] }
              ∧ ∃ axes, t.works.link.causes.motion = some ⟨axes, .awn, some .extend, some .host, .denied, some .wind,
                  m.awn.state, m.awn.position⟩)))

/-- R102 to R104, R119, R130, R138: what a T_CABIN and a T_WATER sample of the pass in hand move. Each copy takes the Reading;
T_CABIN adopts CLIMATE-SETUP; cabin demand goes on at or below the effective setpoint less the hysteresis and off at or above
it plus the hysteresis, water demand at 50 and 80, and both are off without a usable copy or in OFF. T_WATER adopts
the frost threshold and time: the frost timer starts at 0 with water at or below the threshold, or not known, and the heater
neither IGNITING nor RUNNING, and stops otherwise. In LOCKOUT nothing else moves, the frost time not being reached. A frost
time that is reached makes the timer EXPIRED; a drain that is not CLOSED is left as it stands. One that is not reached is no
expiry (the model's choice, log entry 10). -/
def Obligations.TemperaturesMoveDemandAndFrost : Prop :=
  ∀ s : State, s.lives = true →
    let c := s.works.climate
    let w := s.works.water
    let live := s.works.link.live
    let taken (ch : Fin 9) : Prop := s.scanner.awaited.getLsbD ch.val = true ∧ s.scanner.adopted[ch].enabled = true
    (∀ x : Int, taken 3 → ∃ t, exec (.channelSample (.tCabin x)) s = .next t
      ∧ (let r := t.scanner.channels[(3 : Fin 9)].reading
         let effective : Option Nat := match c.mode with
           | .off => none
           | .comfort => some c.setpoint
           | .eco => some (max 50 (c.setpoint - live.climate.ecoOffset))
           | .frost => some 50
         let demand : Bool := match effective, r.usable with
           | some e, some v =>
             if c.cabinDemand then !decide ((e : Int) + live.climate.hysteresis ≤ v)
             else decide (v ≤ (e : Int) - live.climate.hysteresis)
           | _, _ => false
         t.works.climate.cabin = r ∧ t.works.climate.adopted = live.climate ∧ t.works.climate.cabinDemand = demand
         ∧ t.works.climate.waterDemand = c.waterDemand ∧ t.works.climate.mode = c.mode
         ∧ (∀ reason, c.heater = .lockout reason → t.works = { s.works with climate := { c with
              cabin := r
              adopted := live.climate
              cabinDemand := demand } }))) ∧
    (∀ x : Int, taken 4 → ∃ t, exec (.channelSample (.tWater x)) s = .next t
      ∧ (let r := t.scanner.channels[(4 : Fin 9)].reading
         let demand : Bool := match c.mode, r.usable with
           | .off, _ => false
           | _, some v => if c.waterDemand then !decide (80 ≤ v) else decide (v ≤ 50)
           | _, none => false
         let cold : Bool := match r.usable with
           | some v => decide (v ≤ live.water.frostThreshold)
           | none => true
         let frost : FrostTimer :=
           if cold ∧ w.heaterCopy ≠ .igniting ∧ w.heaterCopy ≠ .running then
             (if w.frost = .stopped then .running 0 else w.frost)
           else .stopped
         let water : Water := { w with
           waterCopy := r
           adopted := { w.adopted with frostThreshold := live.water.frostThreshold, frostTime := live.water.frostTime } }
         let reached : Prop := ∃ ran, frost = .running ran ∧ live.water.frostTime * 1000 ≤ ran
         t.works.climate.water = r ∧ t.works.climate.waterDemand = demand ∧ t.works.climate.cabinDemand = c.cabinDemand
         ∧ t.works.water.waterCopy = r ∧ t.works.water.adopted = water.adopted
         ∧ (∀ reason, c.heater = .lockout reason →
              (¬reached → t.works = { s.works with
                climate := { c with water := r, waterDemand := demand }
                water := { water with frost := frost } })
              ∧ (reached → w.drain ≠ .closed → s.works.vehicle.condition ≠ .dormant → t.works = { s.works with
                climate := { c with water := r, waterDemand := demand }
                water := { water with frost := .expired } })))) ∧
    (∀ ran, w.frost = .running ran → w.adopted.frostTime * 1000 ≤ ran → w.drain ≠ .closed →
      s.works.vehicle.condition ≠ .dormant →
      exec .frostExpiry s = .next { s with works := { s.works with water := { w with frost := .expired } } }) ∧
    ((∀ ran, w.frost = .running ran → ran < w.adopted.frostTime * 1000) → exec .frostExpiry s = .next s)

/-- R20 to R23: a bank pair of the pass in hand with both Readings plausible, the account neither UNKNOWN nor about to adopt,
calibrate or detect: Q moves by 5 × s × BI in discharge and by that share η of it in charge, rounded down, within 0 and
Qfull; the increment before the clamp is kept, a BI at a limit marks the pair saturated, and a CALIBRATED discharge adds to
throughput. -/
def Obligations.BankPairIntegrates : Prop :=
  ∀ (bv bi : Int) (s : State), s.lives = true →
    let a := s.account
    let setup := s.works.link.live.bank
    let window (ch : Fin 9) (x : Int) : Prop := s.scanner.adopted[ch].minimum ≤ x ∧ x ≤ s.scanner.adopted[ch].maximum
    s.scanner.awaited.getLsbD 0 = true → a.confidence ≠ .unknown → a.bank = setup → a.heldCapacity = setup.capacity →
    0 ≤ bv → bv < setup.vFull →
    bv ≤ 20000 → -30000 ≤ bi → bi ≤ 30000 → 20 < bi.natAbs → window 0 bv → window 1 bi →
    let scale : Int := (s.scanner.passLength / 500 : Nat)
    let increment : Int := if bi ≤ 0 then 5 * scale * bi else (5 * scale * bi * setup.efficiency) / 1000
    ∃ t, exec (.bankPair bv bi) s = .next t
      ∧ (t.account.q : Int) = max 0 (min ((setup.capacity * 3600000 : Nat) : Int) ((a.q : Int) + increment))
      ∧ t.account.lastIncrement = increment ∧ t.account.saturated = decide (bi = 30000 ∨ bi = -30000)
      ∧ t.account.throughput = (if a.confidence = .calibrated ∧ increment < 0 then a.throughput + increment.natAbs
          else a.throughput)
      ∧ t.account.confidence = (if a.confidence = .calibrated ∧ increment < 0
          ∧ setup.capacity * 3600000 * setup.driftCycles ≤ a.throughput + increment.natAbs then .drifted
          else a.confidence)
      ∧ t.account.restClock = none ∧ t.account.fullClock = none
      ∧ t.scanner.channels[(0 : Fin 9)] = ⟨.valid bv, 0, some (.sample bv)⟩
      ∧ t.scanner.channels[(1 : Fin 9)] = ⟨.valid bi, 0, some (.sample bi)⟩
      ∧ t.pending = s.pending ∧ t.settings = s.settings

/-- R24 and R28, whole: after every bank pair of a pass in hand, whatever the pair and the account before it. R24: a usable
BI of magnitude 20 or less adds the pair's pass length to a running rest clock, or starts one at 0, with the attempt not
taken, where none runs; any other BI leaves it absent (`bi` is the Reading that the pair publishes; at a rest time of 0,
which no write gives, the attempt is made at once). R28: S is floor(1000 × Q / Qfull), and 0 with Q 0 while UNKNOWN, with Q
within Qfull and S within 1000 in every account whose charge, levels and capacity are sound. -/
def Obligations.BankPairRestClockAndStateOfCharge : Prop :=
  ∀ (bv bi : Int) (s : State), s.powered = true → s.scanner.awaited.getLsbD 0 = true →
    ∃ t, exec (.bankPair bv bi) s = .next t
      ∧ (let usable := t.scanner.channels[(1 : Fin 9)].reading.usable
         ((∃ x, usable = some x ∧ x.natAbs ≤ 20) →
           t.account.restClock = some (match s.account.restClock with
             | some clock => clock + s.scanner.passLength
             | none => 0)
           ∧ (s.account.restClock = none → s.works.link.live.bank.restMinutes ≠ 0 → t.account.restTaken = false))
         ∧ ((∀ x, usable = some x → 20 < x.natAbs) → t.account.restClock = none))
      ∧ (s.account.sound →
          (t.account.confidence ≠ .unknown → t.account.s = 1000 * t.account.q / t.account.qFull)
          ∧ (t.account.confidence = .unknown → t.account.q = 0 ∧ t.account.s = 0)
          ∧ t.account.q ≤ t.account.qFull ∧ t.account.s ≤ 1000)

/-- R29, R30, R31 and R32 (its first sentence): after every bank pair of a pass in hand and a sound account. The cold penalty
is that of the bank temperature copy (while the bank is UNKNOWN too, the model's reading, log entry 12), S_eff is S less it
and the confidence's margin; the SoC level rises at once to the band of S_eff and falls one step past the hysteresis, and is
0 while UNKNOWN; the low and cut counts follow BV, the voltage level rises by them and falls at twenty readings 300 mV above
its threshold, and all stay as they are with an unusable BV; the shed level is the larger. -/
def Obligations.BankPairLevels : Prop :=
  ∀ (bv bi : Int) (s : State), s.powered = true → s.scanner.awaited.getLsbD 0 = true → s.account.sound →
    ∃ t, exec (.bankPair bv bi) s = .next t
      ∧ (let a := t.account
         let setup := s.works.link.live.shed
         let L := s.account.socLevel
         let threshold (k : Nat) : Nat := [setup.t1, setup.t1, setup.t2, setup.t3, setup.t4].getD k 0
         let band := if a.sEff < setup.t4 then 4 else if a.sEff < setup.t3 then 3
           else if a.sEff < setup.t2 then 2 else if a.sEff < setup.t1 then 1 else 0
         let v := t.scanner.channels[(0 : Fin 9)].reading.usable
         (∀ temp, s.account.bankTemp.usable = some temp →
            (a.coldPenalty : Int) = if 100 ≤ temp then 0 else min 150 ((100 - temp) / 2))
         ∧ (s.account.bankTemp.usable = none → a.coldPenalty = 150)
         ∧ (a.confidence = .estimated → a.sEff = a.s - a.coldPenalty - 50)
         ∧ (a.confidence = .calibrated → a.sEff = a.s - a.coldPenalty)
         ∧ (a.confidence = .drifted → a.sEff = a.s - a.coldPenalty - 30)
         ∧ (a.confidence = .unknown → a.sEff = 0 ∧ a.socLevel = 0)
         ∧ (a.confidence ≠ .unknown → a.socLevel = if L < band then band
              else if 1 ≤ L ∧ threshold L + setup.hysteresis ≤ a.sEff then L - 1 else L)
         ∧ (v = none → a.voltageLevel = s.account.voltageLevel ∧ a.lowCount = s.account.lowCount
              ∧ a.cutCount = s.account.cutCount ∧ a.releaseCount = s.account.releaseCount)
         ∧ (∀ x, v = some x →
            let V := s.account.voltageLevel
            let low := if x < setup.vLow then min 4 (s.account.lowCount + 1) else 0
            let cut := if x < setup.vCut then min 4 (s.account.cutCount + 1) else 0
            let release := if ((if V = 4 then setup.vCut else setup.vLow) : Int) + 300 ≤ x then s.account.releaseCount + 1 else 0
            a.lowCount = low ∧ a.cutCount = cut
              ∧ (a.voltageLevel, a.releaseCount) = (if cut = 4 ∧ V < 4 then (4, 0) else if low = 4 ∧ V = 0 then (3, 0)
                  else if V = 0 then (0, 0) else if 20 ≤ release then (if V = 4 then 3 else 0, 0) else (V, release)))
         ∧ a.shedLevel = max a.socLevel a.voltageLevel)

/-- R25 to R27, R32: MARK-FULL, a full detection and a rest calibration by themselves. MARK-FULL and a detection set Q to
Qfull, CALIBRATED, throughput 0 and a running full clock to 0; a rest calibration of a LEAD bank, and of a LITHIUM bank at a
table state of charge of 100 or less or 950 or more, takes Q from the table's state of charge of the last BV; a LITHIUM bank
between the two keeps Q, confidence and throughput, its attempt is taken and the table kind is REST-SKIPPED, and nothing is
posted. In each S and S_eff follow, the levels are not moved, and BANK is posted where confidence changed. With no run, or
with the attempt taken, nothing is calibrated. The two events by themselves, and that they leave the levels to the next bank
pair, are the model's (log entry 10). -/
def Obligations.CalibrationsAndMarkFull : Prop :=
  ∀ s : State,
    let full : Nat := s.account.bank.capacity * 3600000
    let calibrated (t : State) : Prop := t.account.confidence = .calibrated ∧ t.account.throughput = 0
      ∧ t.account.s = 1000 * t.account.q / full ∧ t.account.sEff = t.account.s - t.account.coldPenalty
      ∧ t.account.socLevel = s.account.socLevel ∧ t.account.voltageLevel = s.account.voltageLevel
      ∧ t.account.shedLevel = s.account.shedLevel ∧ t.account.restClock = s.account.restClock
      ∧ (s.account.confidence ≠ .calibrated → ∃ d, t.works.link.causes.bank = some d ∧ d.confidence = .calibrated
          ∧ d.shedLevel = s.account.shedLevel ∧ d.reasons.getLsbD 1 = true)
      ∧ (s.account.confidence = .calibrated → t.works.link.causes = s.works.link.causes)
    (s.listens = true → ∃ t, exec .markFull s = .next t ∧ t.account.q = full ∧ calibrated t
      ∧ t.account.fullClock = s.account.fullClock.map (fun _ => 0)
      ∧ (∃ summary, t.works.link.sending = some ⟨21, 0x00, summary, []⟩)
      ∧ t.works.arbiter = s.works.arbiter ∧ t.scanner = s.scanner ∧ t.settings = s.settings) ∧
    (s.lives = true →
      (∀ clock, s.account.fullClock = some clock → ∃ t, exec .fullDetection s = .next t
        ∧ t.account.q = full ∧ calibrated t ∧ t.account.fullClock = some 0
        ∧ t.works.arbiter = s.works.arbiter ∧ t.scanner = s.scanner)
      ∧ (s.account.fullClock = none → exec .fullDetection s = .next s)
      ∧ (∀ clock v, s.account.restClock = some clock → s.account.restTaken = false →
          s.account.lastBv.usable = some v →
          s.account.bank.chemistry = .lead ∨ s.account.bank.tableSoc v ≤ 100 ∨ 950 ≤ s.account.bank.tableSoc v →
          ∃ t, exec .restCalibration s = .next t
            ∧ t.account.q = full * s.account.bank.tableSoc v / 1000 ∧ calibrated t ∧ t.account.restTaken = true
            ∧ t.account.lastTable = some (s.account.bank.tableSoc v, .rest) ∧ t.works.arbiter = s.works.arbiter
            ∧ t.scanner = s.scanner)
      ∧ (∀ clock v, s.account.restClock = some clock → s.account.restTaken = false →
          s.account.lastBv.usable = some v → s.account.bank.chemistry = .lithium →
          100 < s.account.bank.tableSoc v → s.account.bank.tableSoc v < 950 →
          let known : Bool := s.account.confidence != .unknown
          let soc := if known then 1000 * s.account.q / full else 0
          let margin := match s.account.confidence with | .estimated => 50 | .drifted => 30 | _ => 0
          ∃ t, exec .restCalibration s = .next t
            ∧ t.account = { s.account with
                restTaken := true
                lastTable := some (s.account.bank.tableSoc v, .restSkipped)
                s := soc
                coldPenalty := t.account.coldPenalty
                margin := margin
                sEff := if known then soc - t.account.coldPenalty - margin else 0 }
            ∧ t.works = s.works ∧ t.scanner = s.scanner ∧ t.settings = s.settings ∧ t.pending = s.pending)
      ∧ (s.account.restTaken = true ∨ s.account.restClock = none → exec .restCalibration s = .next s))

/-! ## The vehicle inputs and DORMANT -/

/-- R168 to R170, R180: SLEEP, and the silence timer at a silence time other than never, in PARKED with the Dormant entry
test passing: the condition is DORMANT, the silence timer is stopped, MCTL takes the change, VEHICLE is posted; nothing else
moves. A silence timer that has reached the silence time with the test failing starts afresh. Short of that time, as after a
frame that came first, and outside PARKED, the expiry does not happen (an expiry that is not due is the model's choice, log
entry 10). That a fade that waits for its start counts as running is the model's reading (log entry 23). An uptime in seconds
is rounded down (the model's choice, log entry 32). -/
def Obligations.DormantIsEntered : Prop :=
  ∀ s : State,
    let reached : Prop := s.works.link.live.link.silence ≠ 0
      ∧ ∃ elapsed, s.works.vehicle.silence = some elapsed ∧ s.works.link.live.link.silence * 60000 ≤ elapsed
    let passes : Prop := (∀ r ∈ s.works.arbiter.grants, r.out = DRAIN) ∧ s.works.motion.queue = []
      ∧ s.works.motion.stage.move? = none
      ∧ (s.works.climate.heater = .off ∨ ∃ reason, s.works.climate.heater = .lockout reason)
      ∧ s.works.water.pump ≠ .running ∧ ∀ ch : LightId, (s.works.light ch).fade = none
    (∀ (c : Instr), (c = .sleep ∧ s.listens = true ∨ c = .silenceExpiry ∧ s.lives = true
        ∧ reached) →
      s.works.vehicle.condition = .parked → s.works.motion.condition = .parked → s.works.motion.depart = false → passes →
      ∃ t, exec c s = .next t ∧ t.works.vehicle.condition = .dormant ∧ t.works.vehicle.silence = none
        ∧ t.works.vehicle.dormantAt = s.works.vehicle.uptime
        ∧ t.works.motion = { s.works.motion with condition := .dormant }
        ∧ t.works.link.causes = { s.works.link.causes with vehicle := some ⟨.dormant, .parked, s.works.vehicle.ign,
            s.works.vehicle.dplus, s.works.vehicle.uptime / 1000⟩ }
        ∧ (c = .sleep → ∃ summary, t.works.link.sending = some ⟨22, 0x00, summary, []⟩)
        ∧ s.worksOnly t ∧ t.works.arbiter = s.works.arbiter ∧ t.works.stages = s.works.stages
        ∧ t.works.lights = s.works.lights ∧ t.works.climate = s.works.climate ∧ t.works.water = s.works.water) ∧
    (s.lives = true → s.works.vehicle.condition = .parked → reached → ¬passes →
      exec .silenceExpiry s = .next { s with works := { s.works with vehicle := { s.works.vehicle with
        silence := some 0 } } }) ∧
    (s.lives = true → s.works.vehicle.condition ≠ .parked ∨ ¬reached → exec .silenceExpiry s = .next s)

/-- R166, R167, R98, R160: the debounced ignition and D+ move the condition. IGN on in PARKED with DPLUS off and both axes in
and at rest gives READY; DPLUS on in READY, with L4 dark, gives DRIVING, and L4 is forced to an aim of 0; IGN off in READY
gives PARKED with the silence timer from 0. Each posts VEHICLE. DPLUS in PARKED or DORMANT moves the input's state alone. A
state already held is no change (the model's choice, log entry 6). An uptime in seconds is rounded down (the model's choice,
log entry 32). -/
def Obligations.ConditionFollowsItsInputs : Prop :=
  ∀ s : State, s.lives = true →
    let v := s.works.vehicle
    let m := s.works.motion
    let posted (new old : Condition) (ign dplus : Bool) : CauseSet := { s.works.link.causes with
      vehicle := some ⟨new, old, ign, dplus, v.uptime / 1000⟩ }
    let still : Prop := m.awn.state = .retracted ∧ m.step.state = .retracted ∧ m.queue = []
      ∧ (m.stage = .idle ∨ m.stage = .held) ∧ m.depart = false
    (v.ign = false → v.condition = .parked → v.dplus = false → still →
      ∃ t, exec (.ignChange true) s = .next t
        ∧ t.works.vehicle = { v with ign := true, condition := .ready, silence := none }
        ∧ t.works.motion = { m with condition := .ready } ∧ t.works.link.causes = posted .ready .parked true false
        ∧ t.works.lights = s.works.lights ∧ t.works.stages = s.works.stages ∧ t.works.arbiter = s.works.arbiter
        ∧ t.works.climate = s.works.climate ∧ t.works.water = s.works.water ∧ t.account = s.account) ∧
    (v.ign = true → v.condition = .ready → still →
      ∃ t, exec (.ignChange false) s = .next t
        ∧ t.works.vehicle = { v with ign := false, condition := .parked, silence := some 0 }
        ∧ t.works.motion = { m with condition := .parked } ∧ t.works.link.causes = posted .parked .ready false v.dplus
        ∧ t.works.lights = s.works.lights ∧ t.works.stages = s.works.stages ∧ t.works.arbiter = s.works.arbiter) ∧
    (v.dplus = false → v.condition = .ready → still → (s.works.light 3).cover = none →
      (s.works.light 3).lowering = none → (s.works.light 3).stance = .none → (s.works.light 3).pending = none →
      (s.works.light 3).fade = none →
      ∃ t, exec (.dplusChange true) s = .next t
        ∧ t.works.vehicle = { v with dplus := true, condition := .driving, silence := none }
        ∧ t.works.motion = { m with condition := .driving } ∧ t.works.link.causes = posted .driving .ready v.ign true
        ∧ t.works.lights.forced = true ∧ t.works.light 3 = { s.works.light 3 with aim := 0 }
        ∧ (∀ ch : LightId, ch ≠ 3 → t.works.light ch = s.works.light ch)
        ∧ t.works.stages = s.works.stages ∧ t.works.arbiter = s.works.arbiter) ∧
    (∀ on : Bool, v.dplus = !on → v.condition = .parked ∨ v.condition = .dormant →
      exec (.dplusChange on) s = .next { s with
        inputs := { s.inputs with dplus := on }
        runs := { s.runs with dplus := none }
        works := { s.works with vehicle := { v with dplus := on } } }) ∧
    (exec (.ignChange v.ign) s = .next { s with
        inputs := { s.inputs with ign := v.ign }
        runs := { s.runs with ign := none } })

/-- R171, R172: the wake sources while DORMANT: an opening door, a closing pressure switch, a good frame for this unit, the
frost expiry, a change of the thermal stage, a change of the shed level, and the ignition. Each makes the part PARKED with
the silence timer from 0 and the last wake its reason and uptime, and posts WAKE with the time spent DORMANT; no VEHICLE is
posted for the wake. The just-woken mark stands until a reply has been built, and the reply to the frame that woke clears it.
The ignition goes on to READY, with VEHICLE of PARKED to READY. A closing door does not wake. The uptime and the time spent
DORMANT are whole seconds, rounded down (the model's choice, log entry 32). -/
def Obligations.WakeFromDormant : Prop :=
  ∀ s : State, s.lives = true → s.works.vehicle.condition = .dormant → s.works.vehicle.restarting = false →
    let v := s.works.vehicle
    let w := s.works.water
    let now := v.uptime / 1000
    let posted (reason : WakeReason) (index : Nat) (t : State) : Prop := t.works.vehicle.lastWake = some (reason, now)
      ∧ ∃ d, t.works.link.causes.wake = some d ∧ d.latest = reason ∧ d.uptime = now
        ∧ d.dormantFor = (v.uptime - v.dormantAt) / 1000 ∧ d.reasons.getLsbD index = true
    let woken (reason : WakeReason) (index : Nat) (t : State) : Prop := posted reason index t
      ∧ t.works.vehicle.condition = .parked ∧ t.works.vehicle.silence = some 0 ∧ t.works.motion.condition = .parked
      ∧ t.works.link.causes.vehicle = s.works.link.causes.vehicle
    (∀ (c : Instr) (reason : WakeReason) (index : Nat),
      (c = .doorChange true ∧ v.door = false ∧ reason = .door ∧ index = 1
        ∨ c = .pswChange true ∧ w.psw = false ∧ reason = .psw ∧ index = 2
        ∨ c = .frostExpiry ∧ (∃ ran, w.frost = .running ran ∧ w.adopted.frostTime * 1000 ≤ ran) ∧ reason = .frost
          ∧ index = 4) →
      ∃ t, exec c s = .next t ∧ woken reason index t ∧ t.works.vehicle.justWoken = true) ∧
    (∀ straps : BitVec 2, ∃ t, exec (.ident straps) s = .next t ∧ woken .frame 3 t ∧ t.works.vehicle.justWoken = false
      ∧ ∃ summary payload, t.works.link.sending = some ⟨1, 0x00, summary, payload⟩ ∧ summary.toNat % 4 = 3) ∧
    (∀ bv bi : Int, s.scanner.awaited.getLsbD 0 = true → ∃ t, exec (.bankPair bv bi) s = .next t
      ∧ (t.account.shedLevel ≠ s.account.shedLevel → woken .shed 5 t ∧ t.works.vehicle.justWoken = true)
      ∧ (t.account.shedLevel = s.account.shedLevel → t.works.vehicle = v)) ∧
    (∀ x : Int, s.scanner.awaited.getLsbD 5 = true → s.scanner.adopted[(5 : Fin 9)].enabled = true →
      ∃ t, exec (.channelSample (.tDie x)) s = .next t
      ∧ (t.works.stages.stage ≠ s.works.stages.stage → woken .thermal 6 t ∧ t.works.vehicle.justWoken = true)
      ∧ (t.works.stages.stage = s.works.stages.stage → s.works.stages.staged = true → t.works.vehicle = v)) ∧
    (v.ign = false → v.dplus = false → ∃ t, exec (.ignChange true) s = .next t ∧ posted .ign 0 t
      ∧ t.works.vehicle.condition = .ready ∧ t.works.vehicle.silence = none ∧ t.works.vehicle.justWoken = true
      ∧ t.works.motion.condition = .ready
      ∧ t.works.link.causes.vehicle = some ⟨.ready, .parked, true, false, now⟩) ∧
    (v.door = true → exec (.doorChange false) s = .next { s with
      inputs := { s.inputs with door := false }
      runs := { s.runs with door := none }
      works := { s.works with vehicle := { v with door := false } } })

/-- R158, R160, R98, R167: the ignition with the STEP out, and what leaving DRIVING does. IGN on in PARKED, the stage idle,
nothing queued and MOTOR asking for nothing: READY, MOTOR granted under class 0 for an AUTO RETRACT of STEP that pauses, and
the depart-warning line asserted with DEPART. A queued EXTEND, the stage being latched, is DENIED for CONDITION. DPLUS off in
DRIVING gives READY and IGN off PARKED; L4's forced mark is cleared, its aim its wanted duty: with none wanted it stays dark,
and with room for one it is granted and fades in over its kept fade time; no axis moves, and in PARKED the line is lowered.
An uptime in seconds is rounded down (the model's choice, log entry 32). -/
def Obligations.IgnitionRetractAndLeavingDriving : Prop :=
  ∀ s : State, s.lives = true →
    let v := s.works.vehicle
    let m := s.works.motion
    let a := s.works.arbiter
    let now := v.uptime / 1000
    (v.ign = false → v.dplus = false → v.condition = .parked →
      (m.step.state ≠ .retracted → m.depart = false → m.stage = .idle → m.queue = [] → s.works.resting MOTOR = true →
        a.waits = [] → a.permits 0 = true → m.last ≠ some (.step, .retract) →
        let live := s.works.link.live.load[(10 : Fin 12)]
        ∃ t, exec (.ignChange true) s = .next t
          ∧ t.works.vehicle = { v with ign := true, condition := .ready, silence := none }
          ∧ t.works.motion = { m with
              condition := .ready
              depart := true
              stage := .pausing ⟨⟨.step, .retract, .auto .ignition, v.uptime⟩,
                if m.last = some (.step, .extend) then 300 else 200, none, 0, 0, false⟩ }
          ∧ t.works.out MOTOR = { s.works.out MOTOR with load := live, grant := some ⟨live.rated, none⟩ }
          ∧ (∀ o, o ≠ MOTOR → t.works.out o = s.works.out o)
          ∧ t.works.arbiter = { a with
              arrivals := a.arrivals + 1
              grants := a.grants ++ [GrantRecord.mk MOTOR 0 live.rated none live.rated live.rated none (a.arrivals + 1)] }
          ∧ t.works.link.causes = { s.works.link.causes with
              vehicle := some ⟨.ready, .parked, true, false, now⟩
              depart := some ⟨true, .ready, if m.awn.state = .retracted then 2 else 3⟩ }
          ∧ t.works.lights = s.works.lights ∧ t.works.climate = s.works.climate ∧ t.works.water = s.works.water) ∧
      (∀ e : QueueEntry, m.queue = [e] → e.direction = .extend → m.stage = .held → m.awn.state = .retracted →
        m.step.state = .retracted → m.depart = false → ∃ t, exec (.ignChange true) s = .next t
          ∧ t.works.vehicle = { v with ign := true, condition := .ready, silence := none }
          ∧ t.works.motion = { m with condition := .ready, queue := [] }
          ∧ (∃ axes, t.works.link.causes.motion = some ⟨axes, e.axis, some .extend, some e.origin, .denied,
              some .condition, .retracted, (m.axis e.axis).position⟩)
          ∧ t.works.stages = s.works.stages ∧ t.works.arbiter = a)) ∧
    (∀ (c : Instr) (next : Condition), v.condition = .driving →
      (c = .dplusChange false ∧ v.dplus = true ∧ next = .ready
        ∨ c = .ignChange false ∧ v.ign = true ∧ next = .parked) →
      let l := s.works.light 3
      let ign := if next = .ready then v.ign else false
      let dplus := if next = .ready then false else v.dplus
      let out : Prop := m.awn.state ≠ .retracted ∨ m.step.state ≠ .retracted
      l.cover = none → l.lowering = none → l.stance = .none → l.pending = none → l.fade = none → l.applied = 0 →
      (m.depart = true ↔ out) →
      let moved (t : State) : Prop := t.works.vehicle = { v with
          ign := ign
          dplus := dplus
          condition := next
          silence := if next = .parked then some 0 else none }
        ∧ t.works.motion = { m with condition := next, depart := if next = .parked then false else m.depart }
        ∧ t.works.link.causes.vehicle = some ⟨next, .driving, ign, dplus, now⟩
        ∧ t.works.lights.forced = false ∧ (∀ ch : LightId, ch ≠ 3 → t.works.light ch = s.works.light ch)
        ∧ t.works.climate = s.works.climate ∧ t.works.water = s.works.water
      (l.wanted = 0 → ∃ t, exec c s = .next t ∧ moved t ∧ t.works.light 3 = { l with aim := 0 }
        ∧ t.works.stages = s.works.stages ∧ t.works.arbiter = a) ∧
      (let live := s.works.link.live.load[(3 : Fin 12)]
       let cls := live.cls.getD 0
       let amount := (live.rated * l.wanted + 999) / 1000
       1 ≤ l.wanted → s.works.resting 3 = true → a.waits = [] → a.permits cls = true → (cls = 0 ∨ amount ≤ a.headroom) →
       ∃ t, exec c s = .next t ∧ moved t
        ∧ t.works.light 3 = { l with
            aim := l.wanted
            cover := some ⟨amount, l.wanted⟩
            stance := .full
            fade := some ⟨l.wanted, l.fadeTime * 5, 0, none, 0⟩ }
        ∧ (t.works.out 3).grant = some ⟨amount, some l.wanted⟩ ∧ (t.works.out 3).load = live))

/-- R96, R97, R87, R99, R159, R166: the door and the courtesy light. A closing, and an opening in READY or DRIVING, move the
door's state alone. An opening in PARKED, with auto-step OFF and L5 covered in full for the courtesy duty, sets L5 at once
toward it, its wanted duty kept, and the courtesy timer runs for the courtesy time. The timer, run out, makes L5's aim its
wanted duty over 2 s: within its grant a fade of 100 ticks waits for the next boundary and the action is FADING-OUT; a dark
L5 that waits for nothing and wants nothing is IDLE at once. With no action holding, or with time left, as after a trigger
that came first, the expiry does not happen (an expiry that is not due is the model's, log entry 10). -/
def Obligations.DoorAndCourtesyLight : Prop :=
  ∀ s : State, s.lives = true →
    let alone (opened : Bool) : State := { s with
      inputs := { s.inputs with door := opened }
      runs := { s.runs with door := none }
      works := { s.works with vehicle := { s.works.vehicle with door := opened } } }
    let scenes := s.works.link.live.scenes
    let l := s.works.light 4
    (s.works.vehicle.door = true → exec (.doorChange false) s = .next (alone false)) ∧
    (s.works.vehicle.door = false → s.works.vehicle.condition = .ready ∨ s.works.vehicle.condition = .driving →
      exec (.doorChange true) s = .next (alone true)) ∧
    (∀ c : Cover, s.works.vehicle.door = false → s.works.vehicle.condition = .parked →
      s.works.motion.adopted.autoStep = false → l.wanted < scenes.courtesyDuty → l.cover = some c →
      scenes.courtesyDuty ≤ c.duty → l.lowering = none → l.stance = .full →
      exec (.doorChange true) s = .next { alone true with works := { (alone true).works with lights :=
        { s.works.lights with
          courtesy := .holding (scenes.courtesyTime * 1000)
          channels := s.works.lights.channels.set (4 : LightId) { l with
            aim := scenes.courtesyDuty
            fadeTime := 0
            pending := none
            fade := some ⟨scenes.courtesyDuty, 0, 0, none, 0⟩ } } } }) ∧
    (∀ c : Cover, s.works.lights.courtesy = .holding 0 → l.cover = some c → l.lowering = none → l.stance = .full →
      l.wanted ≤ c.duty →
      exec .courtesyTimeout s = .next { s with works := { s.works with lights := { s.works.lights with
        courtesy := .fadingOut
        channels := s.works.lights.channels.set (4 : LightId) { l with
          aim := l.wanted
          fadeTime := 20
          pending := none
          fade := some ⟨l.wanted, 100, 0, none, 0⟩ } } } }) ∧
    (s.works.lights.courtesy = .holding 0 → l.cover = none → l.lowering = none → l.stance = .none → l.wanted = 0 →
      exec .courtesyTimeout s = .next { s with works := { s.works with lights := { s.works.lights with
        courtesy := .idle
        channels := s.works.lights.channels.set (4 : LightId) { l with
          aim := 0
          fadeTime := 20
          pending := none
          fade := none } } } }) ∧
    (s.works.lights.courtesy = .idle ∨ (∃ left, 0 < left ∧ s.works.lights.courtesy = .holding left) →
      exec .courtesyTimeout s = .next s)

/-! ## The arbiter -/

/-- R40, whole: the permitted set is the classes found in both tables for the shed level and thermal stage held. -/
def Obligations.PermittedClasses : Prop :=
  ∀ (a : Arbiter) (cls : Nat), a.shedLevel ≤ 4 → a.stage ≤ 3 →
    (a.permits cls = true ↔
      cls ∈ [[0, 1, 2, 3], [0, 1, 2, 3], [0, 1, 2], [0, 1], [0]].getD a.shedLevel [] ∧
      cls ∈ [[0, 1, 2, 3], [0, 1, 2, 3], [0], []].getD a.stage [])

/-- R41, R46 to R54: every operation of the arbiter keeps the load within the effective ceiling, one record an output in
each list, and NEW entries and companions without a grant: a request (with a companion only of an output it does not
know), a release, a withdrawal, and the taking of a shed level, a setup and a thermal stage. -/
def Obligations.ArbiterOperationsKeepTheCeiling : Prop :=
  ∀ (a : Arbiter) (now : Nat), a.sound →
    (∀ r : GrantRequest, (∀ c, r.companion = some c → c.out ≠ r.out ∧ a.knows c.out = false ∧ a.knows r.out = false) →
      (a.request r now).1.sound)
    ∧ (∀ o, (a.release o now).1.sound) ∧ (∀ o, (a.withdraw o now).1.sound)
    ∧ (∀ level setup, (a.takeShed level setup now).arbiter.sound) ∧ (∀ stage, (a.takeStage stage now).arbiter.sound)

/-- R53 to R57, section 3.3: what a new shed level, setup or thermal stage takes back, and in which order. The cut first
revokes every grant of a class no longer permitted, latest first; then, while the load is above the ceiling, it reduces
proportional grants above their floor, class 3, then 2, then 1, latest first, each to the duty that fits or to its floor;
then, while the load is still above, it revokes in that same order. The notices are in the order of the steps. A revoked
light or AUX waits again as NEW, a reduced output as TOP-UP, both from now on; a revoked output of a job has no entry; the
other entries stay. A service follows where the ceiling rose or a class became permitted, and not otherwise. GRANT is posted
by a bank pair or a die temperature whose taking revoked or reduced: its outputs join those latched, with the level, stage
and ceiling then held (that step 3 follows R54 where section 5.10 tells it otherwise, and that GRANT follows the notices, is
the model's reading, log entry 19). -/
def Obligations.TakingsCutAndPostGrant : Prop :=
  (∀ (b : Arbiter) (now : Nat), (b.grants.map (·.out)).Nodup →
    let c := b.cut now
    let order (gs : List GrantRecord) : List GrantRecord := [3, 2, 1].flatMap fun k => gs.reverse.filter fun r => r.cls == k
    let load (gs : List GrantRecord) : Nat := ((gs.filter fun r => r.cls != 0).map (·.ma)).sum
    let banned := b.grants.reverse.filter fun r => !b.permits r.cls
    let kept := b.grants.filter fun r => b.permits r.cls
    let loaded := (order kept).filter fun r => r.prop.isSome && decide (r.floor < r.ma)
    let loadAt (i : Nat) : Nat := load kept - ((loaded.take i).map fun r => r.ma - r.floor).sum
    let reducedAt (i : Nat) (r : GrantRecord) : GrantRecord := match r.prop with
      | none => r
      | some p =>
        let fit := if p.rated = 0 then p.wanted else min p.wanted ((b.ceiling + r.ma - loadAt i) * 1000 / p.rated)
        if b.ceiling + r.ma ≤ loadAt i ∨ fit < p.floor then { r with ma := r.floor, duty := some p.floor }
        else { r with ma := (p.rated * fit + 999) / 1000, duty := some fit }
    ∃ n m, n ≤ loaded.length ∧ (∀ i, i < n → b.ceiling < loadAt i) ∧
      (let reduced := loaded.take n
       let left := kept.map fun r => match reduced.findIdx? fun x => x.out == r.out with
         | some i => reducedAt i r
         | none => r
       let revoked := (order left).take m
       (n < loaded.length → load left ≤ b.ceiling)
       ∧ m ≤ (order left).length
       ∧ (∀ j, j < m → b.ceiling < load (left.filter fun r => !((order left).take j).contains r))
       ∧ load c.arbiter.grants ≤ b.ceiling
       ∧ c.arbiter.grants = left.filter (fun r => !revoked.contains r)
       ∧ c.revoked = (banned ++ revoked).map (·.out) ∧ c.reduced = reduced.map (·.out)
       ∧ c.notices = banned.map (fun r => (r.out, .revoked))
           ++ (reduced.mapIdx fun i r => (r.out, .reduced (reducedAt i r).ma (reducedAt i r).duty))
           ++ revoked.map (fun r => (r.out, .revoked))
       ∧ { c.arbiter with grants := b.grants, waits := b.waits } = b
       ∧ ∀ o : OutId, (c.arbiter.waits.filter fun e => e.out == o) = match b.grants.find? fun r => r.out == o with
           | none => b.waits.filter fun e => e.out == o
           | some r =>
             if o ∈ c.revoked then (if o.val < 6 ∨ o.val = 11 then
               [⟨o, none, r.cls, r.requested, r.floor, r.prop, .new, r.arrival, now⟩] else [])
             else if o ∈ c.reduced then [⟨o, none, r.cls, r.requested, r.floor, r.prop, .topUp, r.arrival, now⟩]
             else b.waits.filter fun e => e.out == o)) ∧
  (∀ (a : Arbiter) (level stage now : Nat) (setup : ShedSetup),
    let takes (b : Arbiter) (c : Cut) : Prop :=
      let served : Prop := a.ceiling < b.ceiling ∨ (b.permits 0 = true ∧ a.permits 0 = false)
        ∨ (b.permits 1 = true ∧ a.permits 1 = false) ∨ (b.permits 2 = true ∧ a.permits 2 = false)
        ∨ (b.permits 3 = true ∧ a.permits 3 = false)
      c.revoked = (b.cut now).revoked ∧ c.reduced = (b.cut now).reduced
      ∧ (served → c.arbiter = ((b.cut now).arbiter.serve now).1
          ∧ c.notices = (b.cut now).notices ++ ((b.cut now).arbiter.serve now).2)
      ∧ (¬served → c.arbiter = (b.cut now).arbiter ∧ c.notices = (b.cut now).notices)
    takes { a with shedLevel := level, ceilings := setup.ceilings, barrierAge := setup.barrierAge } (a.takeShed level setup now)
    ∧ takes { a with stage := stage } (a.takeStage stage now)) ∧
  (∀ (bv bi x : Int) (s : State), s.lives = true → s.works.vehicle.condition ≠ .dormant →
    let before := s.works.link.causes.grant
    let a := s.works.arbiter
    let posted (c : Cut) : Option GrantDetail :=
      if c.revoked = [] ∧ c.reduced = [] then before
      else some ⟨FlagSet.ofOuts c.revoked ||| ((before.map (·.revoked)).getD 0),
        FlagSet.ofOuts c.reduced ||| ((before.map (·.reduced)).getD 0), c.arbiter.shedLevel, c.arbiter.stage, c.arbiter.ceiling⟩
    (s.scanner.awaited.getLsbD 0 = true → ∃ t, exec (.bankPair bv bi) s = .next t
      ∧ t.works.link.causes.grant =
        if t.account.shedLevel ≠ s.account.shedLevel ∨ s.account.shedSetup ≠ s.works.link.live.shed
        then posted (a.takeShed t.account.shedLevel s.works.link.live.shed s.works.vehicle.uptime) else before) ∧
    (s.scanner.awaited.getLsbD 5 = true → s.scanner.adopted[(5 : Fin 9)].enabled = true →
      ∃ t, exec (.channelSample (.tDie x)) s = .next t
        ∧ t.works.link.causes.grant =
          if t.works.stages.stage ≠ s.works.stages.stage ∨ s.works.stages.staged = false
          then posted (a.takeStage t.works.stages.stage s.works.vehicle.uptime) else before))

/-- R44 (its order), R45, R46, R48, R49, R51 and R52: how a request without a companion is answered and how a service goes. A
request for an output with no grant is judged against the headroom alone: granted in full, in part at the duty that fits with
a TOP-UP entry, or put in its place as NEW; one that stands in the list already keeps its arrival and entry time. A request
for an output with a grant is judged with its own amount counted in, and keeps its place and arrival; turned away, it is
withdrawn and waits; a service follows where a class 1 to 3 amount was lowered or the record removed (that a class 0
replacement of no smaller amount is followed by none is the model's reading, log entry 19). A service takes the entries in
list order, each against what the ones before left, and goes no further than an aged permitted entry that does not fit. -/
def Obligations.RequestsAndServicesInOrder : Prop :=
  let fitting (p : Proportion) (h : Nat) : Nat := if p.rated = 0 then p.wanted else min p.wanted (h * 1000 / p.rated)
  let maFor (p : Proportion) (duty : Nat) : Nat := (p.rated * duty + 999) / 1000
  let wanted (prop : Option Proportion) : Option Nat := prop.map (·.wanted)
  let placed (e : WaitEntry) (ws : List WaitEntry) : List WaitEntry :=
    let behind (f : WaitEntry) : Bool := decide (e.cls < f.cls) || (e.cls == f.cls && decide (e.arrival < f.arrival))
    ws.takeWhile (fun f => !behind f) ++ e :: ws.dropWhile (fun f => !behind f)
  (∀ (a : Arbiter) (r : GrantRequest) (now : Nat), r.companion = none →
    let own (e : WaitEntry) : Bool := e.out == r.out
    let record (ma : Nat) (duty : Option Nat) (arrival : Nat) : GrantRecord :=
      ⟨r.out, r.cls, ma, duty, r.requested, r.floor, r.prop, arrival⟩
    let entry (kind : WaitKind) (arrival time : Nat) : WaitEntry :=
      ⟨r.out, none, r.cls, r.requested, r.floor, r.prop, kind, arrival, time⟩
    let ok : Prop := a.permits r.cls = true
    (a.grantOf r.out = none →
      let old := a.waits.find? own
      let arrival := (old.map (·.arrival)).getD (a.arrivals + 1)
      let time := (old.map (·.entryTime)).getD now
      let ws := if old.isSome then a.waits.filter (fun e => !own e)
        else a.waits.map fun e => if e.companion.map (·.out) = some r.out then { e with companion := none } else e
      (ok → r.cls = 0 ∨ r.requested ≤ a.headroom → a.request r now =
        ({ a with
            arrivals := a.arrivals + 1
            grants := a.grants ++ [record r.requested (wanted r.prop) arrival]
            waits := ws }, [(r.out, .granted r.requested (wanted r.prop))], .granted))
      ∧ (∀ p, r.prop = some p → ok → r.cls ≠ 0 → a.headroom < r.requested → r.floor ≤ a.headroom →
          let duty := fitting p a.headroom
          a.request r now =
          ({ a with
              arrivals := a.arrivals + 1
              grants := a.grants ++ [record (maFor p duty) (some duty) arrival]
              waits := placed (entry .topUp arrival time) ws }, [(r.out, .partGranted (maFor p duty) (some duty))], .part))
      ∧ (¬ok ∨ (r.cls ≠ 0 ∧ a.headroom < r.requested ∧ (r.prop = none ∨ a.headroom < r.floor)) → a.request r now =
          ({ a with
              arrivals := a.arrivals + 1
              waits := placed (entry .new arrival time) ws }, [(r.out, .waiting)], .waiting)))
    ∧ (∀ g, a.grantOf r.out = some g →
      let h := a.headroom + (if g.cls = 0 then 0 else g.ma)
      let others := a.waits.filter fun e => !own e
      let swapped (x : GrantRecord) : List GrantRecord := a.grants.map fun y => if y.out == r.out then x else y
      let then_ (due : Bool) (b : Arbiter) (first : Notices) (answer : Answer) : Arbiter × Notices × Answer :=
        if due then ((b.serve now).1, first ++ (b.serve now).2, answer) else (b, first, answer)
      (ok → r.cls = 0 ∨ r.requested ≤ h → a.request r now = then_ (g.cls != 0 && decide (r.requested < g.ma))
        { a with
          arrivals := a.arrivals + 1
          grants := swapped (record r.requested (wanted r.prop) g.arrival)
          waits := others } [(r.out, .granted r.requested (wanted r.prop))] .granted)
      ∧ (∀ p, r.prop = some p → ok → r.cls ≠ 0 → h < r.requested → r.floor ≤ h →
          let ma := maFor p (fitting p h)
          a.request r now = then_ (g.cls != 0 && decide (ma < g.ma))
            { a with
              arrivals := a.arrivals + 1
              grants := swapped (record ma (some (fitting p h)) g.arrival)
              waits := placed (entry .topUp g.arrival (((a.waits.find? own).map (·.entryTime)).getD now)) others }
            [(r.out, .partGranted ma (some (fitting p h)))] .part)
      ∧ (¬ok ∨ (r.cls ≠ 0 ∧ h < r.requested ∧ (r.prop = none ∨ h < r.floor)) → a.request r now = then_ true
          { a with
            arrivals := a.arrivals + 1
            grants := a.grants.filter fun y => y.out != r.out
            waits := placed (entry .new g.arrival now) others } [(r.out, .withdrawn), (r.out, .waiting)] .waiting))) ∧
  (∀ (a : Arbiter) (now : Nat) (e : WaitEntry) (rest : List WaitEntry),
    (a.waits = [] → a.serve now = (a, [])) ∧
    (a.waits = e :: rest →
      let one := { a with waits := [e] }.serve now
      let next := { one.1 with waits := rest }.serve now
      let barrier : Prop := a.permits e.cls = true ∧ (∀ c, e.companion = some c → a.permits c.cls = true) ∧ one.2 = []
        ∧ a.barrierAge * 1000 ≤ now - e.entryTime
      (barrier → a.serve now = (a, []))
      ∧ (¬barrier → a.serve now = ({ next.1 with waits := one.1.waits ++ next.1.waits }, one.2 ++ next.2)))) ∧
  (∀ (a : Arbiter) (now : Nat) (e : WaitEntry), a.waits = [e] →
    let record (ma : Nat) (duty : Option Nat) : GrantRecord := ⟨e.out, e.cls, ma, duty, e.requested, e.floor, e.prop, e.arrival⟩
    let ok : Prop := a.permits e.cls = true
    (e.companion = none →
      (¬ok → a.serve now = (a, []))
      ∧ (e.kind = .new →
        (ok → e.cls = 0 ∨ e.requested ≤ a.headroom → a.serve now =
          ({ a with grants := a.grants ++ [record e.requested (wanted e.prop)], waits := [] },
            [(e.out, .granted e.requested (wanted e.prop))]))
        ∧ (∀ p, e.prop = some p → ok → e.cls ≠ 0 → a.headroom < e.requested → e.floor ≤ a.headroom →
          let ma := maFor p (fitting p a.headroom)
          a.serve now = ({ a with
              grants := a.grants ++ [record ma (some (fitting p a.headroom))]
              waits := [{ e with kind := .topUp }] }, [(e.out, .partGranted ma (some (fitting p a.headroom)))]))
        ∧ (e.cls ≠ 0 → a.headroom < e.requested → e.prop = none ∨ a.headroom < e.floor → a.serve now = (a, [])))
      ∧ (∀ g, a.grantOf e.out = some g → e.kind = .topUp → ok →
        let h := a.headroom + (if g.cls = 0 then 0 else g.ma)
        let raised (ma : Nat) (duty : Option Nat) : List GrantRecord :=
          a.grants.map fun y => if y.out == e.out then { y with ma := ma, duty := duty } else y
        (g.cls = 0 ∨ e.requested ≤ h → a.serve now =
          ({ a with grants := raised e.requested (wanted e.prop), waits := [] },
            [(e.out, .raised e.requested (wanted e.prop) true)]))
        ∧ (∀ p, e.prop = some p → g.cls ≠ 0 → h < e.requested →
          let duty := fitting p h
          (g.duty.getD 0 < duty → a.serve now = ({ a with grants := raised (maFor p duty) (some duty) },
            [(e.out, .raised (maFor p duty) (some duty) false)]))
          ∧ (duty ≤ g.duty.getD 0 → a.serve now = (a, [])))
        ∧ (e.prop = none → g.cls ≠ 0 → h < e.requested → a.serve now = (a, []))))
    ∧ (∀ c, e.companion = some c →
      let sum := (if e.cls = 0 then 0 else e.requested) + (if c.cls = 0 then 0 else c.ma)
      (ok → a.permits c.cls = true → sum ≤ a.headroom → a.serve now =
        ({ a with
            grants := a.grants ++ [record e.requested (wanted e.prop),
              ⟨c.out, c.cls, c.ma, wanted c.prop, c.ma, c.ma, c.prop, e.arrival⟩]
            waits := [] },
          [(e.out, .granted e.requested (wanted e.prop)), (c.out, .granted c.ma (wanted c.prop))]))
      ∧ (¬ok ∨ a.permits c.cls = false ∨ a.headroom < sum → a.serve now = (a, []))))

/-! ## What every step keeps -/

/-- R41, R43, R44, R47: from every state whose arbiter is sound, every step leaves it sound: the load never passes the
effective ceiling. -/
def Obligations.StepKeepsTheArbiterSound : Prop :=
  ∀ s t : State, s.works.arbiter.sound → step s = .next t → t.works.arbiter.sound

/-- R28, R32, section 2.1: from every state whose account is sound, every step leaves it sound: the shed level is always
the larger of the two levels, and Q stays within 0 and Qfull. -/
def Obligations.StepKeepsTheAccountSound : Prop :=
  ∀ s t : State, s.account.sound → step s = .next t → t.account.sound

/-- R65: from every state where each ON output has a grant, an ON demand and a thermal stage below 3, every step leaves it
so: no output is ever driven without its grant. -/
def Obligations.StepDrivesNothingWithoutAGrant : Prop :=
  ∀ s t : State, s.works.stages.sound → step s = .next t → t.works.stages.sound

/-- R106, R160, R56, R143, R157: every step keeps the Water Controller's copy of the heater state equal to the heater's
state, the depart-warning line exactly as R160 gives it, and no notice on its way (the last is the model's, log entry 4); and
every step keeps at most one entry of the Motion Queue per axis, so at most two, and six flags in the wind window. -/
def Obligations.StepKeepsLineCopyAndLists : Prop :=
  ∀ s t : State, step s = .next t →
    (s.delivered → s.works.heaterKnown → s.works.motion.lineSound →
      t.delivered ∧ t.works.heaterKnown ∧ t.works.motion.lineSound)
    ∧ (s.works.motion.listsSound → t.works.motion.listsSound)
end

