-- ==== Sys2Proof/Laws/State.lean ====
section
/-! SUPPORT. What each update of the state leaves in each field, one lemma per field per update, all true by rfl, so that no
later proof unfolds a record update. -/

namespace Sys2Proof.Machine

/-! ## Updates of the whole state -/

@[simp] theorem State.modWorks_pending (s : State) (f : Works → Works) : (s.modWorks f).pending = s.pending := rfl
@[simp] theorem State.modWorks_powered (s : State) (f : Works → Works) : (s.modWorks f).powered = s.powered := rfl
@[simp] theorem State.modWorks_inputs (s : State) (f : Works → Works) : (s.modWorks f).inputs = s.inputs := rfl
@[simp] theorem State.modWorks_runs (s : State) (f : Works → Works) : (s.modWorks f).runs = s.runs := rfl
@[simp] theorem State.modWorks_scanner (s : State) (f : Works → Works) : (s.modWorks f).scanner = s.scanner := rfl
@[simp] theorem State.modWorks_account (s : State) (f : Works → Works) : (s.modWorks f).account = s.account := rfl
@[simp] theorem State.modWorks_works (s : State) (f : Works → Works) : (s.modWorks f).works = f s.works := rfl
@[simp] theorem State.modWorks_settings (s : State) (f : Works → Works) : (s.modWorks f).settings = s.settings := rfl

@[simp] theorem State.modLink_pending (s : State) (f : Link → Link) : (s.modLink f).pending = s.pending := rfl
@[simp] theorem State.modLink_powered (s : State) (f : Link → Link) : (s.modLink f).powered = s.powered := rfl
@[simp] theorem State.modLink_inputs (s : State) (f : Link → Link) : (s.modLink f).inputs = s.inputs := rfl
@[simp] theorem State.modLink_runs (s : State) (f : Link → Link) : (s.modLink f).runs = s.runs := rfl
@[simp] theorem State.modLink_scanner (s : State) (f : Link → Link) : (s.modLink f).scanner = s.scanner := rfl
@[simp] theorem State.modLink_account (s : State) (f : Link → Link) : (s.modLink f).account = s.account := rfl
@[simp] theorem State.modLink_works (s : State) (f : Link → Link) : (s.modLink f).works = { s.works with link := f s.works.link } := rfl
@[simp] theorem State.modLink_settings (s : State) (f : Link → Link) : (s.modLink f).settings = s.settings := rfl

@[simp] theorem State.pins_pending (s : State) (f : Inputs → Inputs) : (s.pins f).pending = s.pending := rfl
@[simp] theorem State.pins_powered (s : State) (f : Inputs → Inputs) : (s.pins f).powered = s.powered := rfl
@[simp] theorem State.pins_inputs (s : State) (f : Inputs → Inputs) : (s.pins f).inputs = f s.inputs := rfl
@[simp] theorem State.pins_runs (s : State) (f : Inputs → Inputs) : (s.pins f).runs = s.runs := rfl
@[simp] theorem State.pins_scanner (s : State) (f : Inputs → Inputs) : (s.pins f).scanner = s.scanner := rfl
@[simp] theorem State.pins_account (s : State) (f : Inputs → Inputs) : (s.pins f).account = s.account := rfl
@[simp] theorem State.pins_works (s : State) (f : Inputs → Inputs) : (s.pins f).works = s.works := rfl
@[simp] theorem State.pins_settings (s : State) (f : Inputs → Inputs) : (s.pins f).settings = s.settings := rfl

@[simp] theorem State.ended_pending (s : State) (f : Runs → Runs) : (s.ended f).pending = s.pending := rfl
@[simp] theorem State.ended_powered (s : State) (f : Runs → Runs) : (s.ended f).powered = s.powered := rfl
@[simp] theorem State.ended_inputs (s : State) (f : Runs → Runs) : (s.ended f).inputs = s.inputs := rfl
@[simp] theorem State.ended_runs (s : State) (f : Runs → Runs) : (s.ended f).runs = f s.runs := rfl
@[simp] theorem State.ended_scanner (s : State) (f : Runs → Runs) : (s.ended f).scanner = s.scanner := rfl
@[simp] theorem State.ended_account (s : State) (f : Runs → Runs) : (s.ended f).account = s.account := rfl
@[simp] theorem State.ended_works (s : State) (f : Runs → Runs) : (s.ended f).works = s.works := rfl
@[simp] theorem State.ended_settings (s : State) (f : Runs → Runs) : (s.ended f).settings = s.settings := rfl

@[simp] theorem State.atWorks_pending (s : State) (f : Works → Works) : (s.atWorks f).pending = s.pending := rfl
@[simp] theorem State.atWorks_powered (s : State) (f : Works → Works) : (s.atWorks f).powered = s.powered := rfl
@[simp] theorem State.atWorks_inputs (s : State) (f : Works → Works) : (s.atWorks f).inputs = s.inputs := rfl
@[simp] theorem State.atWorks_runs (s : State) (f : Works → Works) : (s.atWorks f).runs = s.runs := rfl
@[simp] theorem State.atWorks_scanner (s : State) (f : Works → Works) : (s.atWorks f).scanner = s.scanner := rfl
@[simp] theorem State.atWorks_account (s : State) (f : Works → Works) : (s.atWorks f).account = s.account := rfl
@[simp] theorem State.atWorks_works (s : State) (f : Works → Works) : (s.atWorks f).works = (f s.works).settle := rfl
@[simp] theorem State.atWorks_settings (s : State) (f : Works → Works) : (s.atWorks f).settings = s.settings := rfl

@[simp] theorem State.setLive_pending (s : State) (t : Tables) : (s.setLive t).pending = s.pending := rfl
@[simp] theorem State.setLive_powered (s : State) (t : Tables) : (s.setLive t).powered = s.powered := rfl
@[simp] theorem State.setLive_inputs (s : State) (t : Tables) : (s.setLive t).inputs = s.inputs := rfl
@[simp] theorem State.setLive_runs (s : State) (t : Tables) : (s.setLive t).runs = s.runs := rfl
@[simp] theorem State.setLive_scanner (s : State) (t : Tables) : (s.setLive t).scanner = s.scanner := rfl
@[simp] theorem State.setLive_account (s : State) (t : Tables) : (s.setLive t).account = s.account := rfl
@[simp] theorem State.setLive_works (s : State) (t : Tables) : (s.setLive t).works = { s.works with link := { s.works.link with live := t } } := rfl
@[simp] theorem State.setLive_settings (s : State) (t : Tables) : (s.setLive t).settings = s.settings := rfl

@[simp] theorem State.setWriteCursor_pending (s : State) (c : Cursor) : (s.setWriteCursor c).pending = s.pending := rfl
@[simp] theorem State.setWriteCursor_powered (s : State) (c : Cursor) : (s.setWriteCursor c).powered = s.powered := rfl
@[simp] theorem State.setWriteCursor_inputs (s : State) (c : Cursor) : (s.setWriteCursor c).inputs = s.inputs := rfl
@[simp] theorem State.setWriteCursor_runs (s : State) (c : Cursor) : (s.setWriteCursor c).runs = s.runs := rfl
@[simp] theorem State.setWriteCursor_scanner (s : State) (c : Cursor) : (s.setWriteCursor c).scanner = s.scanner := rfl
@[simp] theorem State.setWriteCursor_account (s : State) (c : Cursor) : (s.setWriteCursor c).account = s.account := rfl
@[simp] theorem State.setWriteCursor_works (s : State) (c : Cursor) : (s.setWriteCursor c).works = { s.works with link := { s.works.link with writeCursor := c } } := rfl
@[simp] theorem State.setWriteCursor_settings (s : State) (c : Cursor) : (s.setWriteCursor c).settings = s.settings := rfl

@[simp] theorem State.setReceiver_pending (s : State) (r : Receiver) : (s.setReceiver r).pending = s.pending := rfl
@[simp] theorem State.setReceiver_powered (s : State) (r : Receiver) : (s.setReceiver r).powered = s.powered := rfl
@[simp] theorem State.setReceiver_inputs (s : State) (r : Receiver) : (s.setReceiver r).inputs = s.inputs := rfl
@[simp] theorem State.setReceiver_runs (s : State) (r : Receiver) : (s.setReceiver r).runs = s.runs := rfl
@[simp] theorem State.setReceiver_scanner (s : State) (r : Receiver) : (s.setReceiver r).scanner = s.scanner := rfl
@[simp] theorem State.setReceiver_account (s : State) (r : Receiver) : (s.setReceiver r).account = s.account := rfl
@[simp] theorem State.setReceiver_works (s : State) (r : Receiver) : (s.setReceiver r).works = { s.works with link := { s.works.link with receiver := r } } := rfl
@[simp] theorem State.setReceiver_settings (s : State) (r : Receiver) : (s.setReceiver r).settings = s.settings := rfl

@[simp] theorem State.endStore_pending (s : State) (t : StoredTables) (o : StoreOutcome) : (s.endStore t o).pending = s.pending := rfl
@[simp] theorem State.endStore_powered (s : State) (t : StoredTables) (o : StoreOutcome) : (s.endStore t o).powered = s.powered := rfl
@[simp] theorem State.endStore_inputs (s : State) (t : StoredTables) (o : StoreOutcome) : (s.endStore t o).inputs = s.inputs := rfl
@[simp] theorem State.endStore_runs (s : State) (t : StoredTables) (o : StoreOutcome) : (s.endStore t o).runs = s.runs := rfl
@[simp] theorem State.endStore_scanner (s : State) (t : StoredTables) (o : StoreOutcome) : (s.endStore t o).scanner = s.scanner := rfl
@[simp] theorem State.endStore_account (s : State) (t : StoredTables) (o : StoreOutcome) : (s.endStore t o).account = s.account := rfl
@[simp] theorem State.endStore_works (s : State) (t : StoredTables) (o : StoreOutcome) : (s.endStore t o).works = s.works.postStore o := rfl
@[simp] theorem State.endStore_settings (s : State) (t : StoredTables) (o : StoreOutcome) : (s.endStore t o).settings = ⟨t, none, some o⟩ := rfl

@[simp] theorem State.storing_pending (s : State) (t : StoredTables) (r : StoreRun) : (s.storing t r).pending = s.pending := rfl
@[simp] theorem State.storing_powered (s : State) (t : StoredTables) (r : StoreRun) : (s.storing t r).powered = s.powered := rfl
@[simp] theorem State.storing_inputs (s : State) (t : StoredTables) (r : StoreRun) : (s.storing t r).inputs = s.inputs := rfl
@[simp] theorem State.storing_runs (s : State) (t : StoredTables) (r : StoreRun) : (s.storing t r).runs = s.runs := rfl
@[simp] theorem State.storing_scanner (s : State) (t : StoredTables) (r : StoreRun) : (s.storing t r).scanner = s.scanner := rfl
@[simp] theorem State.storing_account (s : State) (t : StoredTables) (r : StoreRun) : (s.storing t r).account = s.account := rfl
@[simp] theorem State.storing_works (s : State) (t : StoredTables) (r : StoreRun) : (s.storing t r).works = s.works := rfl
@[simp] theorem State.storing_settings (s : State) (t : StoredTables) (r : StoreRun) : (s.storing t r).settings = { s.settings with stored := t, run := some r } := rfl

@[simp] theorem State.calibrate_pending (s : State) (r : PairRun) : (s.calibrate r).pending = s.pending := rfl
@[simp] theorem State.calibrate_powered (s : State) (r : PairRun) : (s.calibrate r).powered = s.powered := rfl
@[simp] theorem State.calibrate_inputs (s : State) (r : PairRun) : (s.calibrate r).inputs = s.inputs := rfl
@[simp] theorem State.calibrate_runs (s : State) (r : PairRun) : (s.calibrate r).runs = s.runs := rfl
@[simp] theorem State.calibrate_scanner (s : State) (r : PairRun) : (s.calibrate r).scanner = s.scanner := rfl
@[simp] theorem State.calibrate_account (s : State) (r : PairRun) : (s.calibrate r).account = r.account := rfl
@[simp] theorem State.calibrate_works (s : State) (r : PairRun) : (s.calibrate r).works = s.works.postBankFor r.account (FlagSet.ofFlags [false, r.confChanged]) := rfl
@[simp] theorem State.calibrate_settings (s : State) (r : PairRun) : (s.calibrate r).settings = s.settings := rfl

@[simp] theorem State.heard_pending (s : State) : (s.heard).pending = s.pending := rfl
@[simp] theorem State.heard_powered (s : State) : (s.heard).powered = s.powered := rfl
@[simp] theorem State.heard_inputs (s : State) : (s.heard).inputs = s.inputs := rfl
@[simp] theorem State.heard_runs (s : State) : (s.heard).runs = s.runs := rfl
@[simp] theorem State.heard_scanner (s : State) : (s.heard).scanner = s.scanner := rfl
@[simp] theorem State.heard_account (s : State) : (s.heard).account = s.account := rfl
@[simp] theorem State.heard_works (s : State) : (s.heard).works = s.works.restartSilence := rfl
@[simp] theorem State.heard_settings (s : State) : (s.heard).settings = s.settings := rfl

@[simp] theorem State.answered_pending (s : State) (kind status : Byte) (payload : List Byte) : (s.answered kind status payload).pending = s.pending := rfl
@[simp] theorem State.answered_powered (s : State) (kind status : Byte) (payload : List Byte) : (s.answered kind status payload).powered = s.powered := rfl
@[simp] theorem State.answered_inputs (s : State) (kind status : Byte) (payload : List Byte) : (s.answered kind status payload).inputs = s.inputs := rfl
@[simp] theorem State.answered_runs (s : State) (kind status : Byte) (payload : List Byte) : (s.answered kind status payload).runs = s.runs := rfl
@[simp] theorem State.answered_scanner (s : State) (kind status : Byte) (payload : List Byte) : (s.answered kind status payload).scanner = s.scanner := rfl
@[simp] theorem State.answered_account (s : State) (kind status : Byte) (payload : List Byte) : (s.answered kind status payload).account = s.account := rfl
@[simp] theorem State.answered_works (s : State) (kind status : Byte) (payload : List Byte) : (s.answered kind status payload).works = { s.works with
      vehicle := { s.works.vehicle with justWoken := false }
      link := { s.works.link with
        sending := some ⟨kind, status, summaryByte s.works s.account.shedLevel, payload⟩ } } := rfl
@[simp] theorem State.answered_settings (s : State) (kind status : Byte) (payload : List Byte) : (s.answered kind status payload).settings = s.settings := rfl

/-! ## Updates of the works -/

@[simp] theorem Works.modOut_arbiter (w : Works) (o : OutId) (f : Output → Output) : (w.modOut o f).arbiter = w.arbiter := rfl
@[simp] theorem Works.modOut_stages (w : Works) (o : OutId) (f : Output → Output) : (w.modOut o f).stages = { w.stages with outs := w.stages.outs.set o (f w.stages.outs[o]) } := rfl
@[simp] theorem Works.modOut_lights (w : Works) (o : OutId) (f : Output → Output) : (w.modOut o f).lights = w.lights := rfl
@[simp] theorem Works.modOut_climate (w : Works) (o : OutId) (f : Output → Output) : (w.modOut o f).climate = w.climate := rfl
@[simp] theorem Works.modOut_water (w : Works) (o : OutId) (f : Output → Output) : (w.modOut o f).water = w.water := rfl
@[simp] theorem Works.modOut_motion (w : Works) (o : OutId) (f : Output → Output) : (w.modOut o f).motion = w.motion := rfl
@[simp] theorem Works.modOut_vehicle (w : Works) (o : OutId) (f : Output → Output) : (w.modOut o f).vehicle = w.vehicle := rfl
@[simp] theorem Works.modOut_link (w : Works) (o : OutId) (f : Output → Output) : (w.modOut o f).link = w.link := rfl
@[simp] theorem Works.modOut_inbox (w : Works) (o : OutId) (f : Output → Output) : (w.modOut o f).inbox = w.inbox := rfl
@[simp] theorem Works.modOut_free (w : Works) (o : OutId) (f : Output → Output) : (w.modOut o f).free = w.free := rfl

@[simp] theorem Works.modFault_arbiter (w : Works) (o : OutId) (c : FaultCause) (f : FaultRecord → FaultRecord) : (w.modFault o c f).arbiter = w.arbiter := rfl
@[simp] theorem Works.modFault_stages (w : Works) (o : OutId) (c : FaultCause) (f : FaultRecord → FaultRecord) : (w.modFault o c f).stages = { w.stages with faults := w.stages.faults.set (faultIndex o c) (f w.stages.faults[faultIndex o c]) } := rfl
@[simp] theorem Works.modFault_lights (w : Works) (o : OutId) (c : FaultCause) (f : FaultRecord → FaultRecord) : (w.modFault o c f).lights = w.lights := rfl
@[simp] theorem Works.modFault_climate (w : Works) (o : OutId) (c : FaultCause) (f : FaultRecord → FaultRecord) : (w.modFault o c f).climate = w.climate := rfl
@[simp] theorem Works.modFault_water (w : Works) (o : OutId) (c : FaultCause) (f : FaultRecord → FaultRecord) : (w.modFault o c f).water = w.water := rfl
@[simp] theorem Works.modFault_motion (w : Works) (o : OutId) (c : FaultCause) (f : FaultRecord → FaultRecord) : (w.modFault o c f).motion = w.motion := rfl
@[simp] theorem Works.modFault_vehicle (w : Works) (o : OutId) (c : FaultCause) (f : FaultRecord → FaultRecord) : (w.modFault o c f).vehicle = w.vehicle := rfl
@[simp] theorem Works.modFault_link (w : Works) (o : OutId) (c : FaultCause) (f : FaultRecord → FaultRecord) : (w.modFault o c f).link = w.link := rfl
@[simp] theorem Works.modFault_inbox (w : Works) (o : OutId) (c : FaultCause) (f : FaultRecord → FaultRecord) : (w.modFault o c f).inbox = w.inbox := rfl
@[simp] theorem Works.modFault_free (w : Works) (o : OutId) (c : FaultCause) (f : FaultRecord → FaultRecord) : (w.modFault o c f).free = w.free := rfl

@[simp] theorem Works.modLight_arbiter (w : Works) (ch : LightId) (f : Light → Light) : (w.modLight ch f).arbiter = w.arbiter := rfl
@[simp] theorem Works.modLight_stages (w : Works) (ch : LightId) (f : Light → Light) : (w.modLight ch f).stages = w.stages := rfl
@[simp] theorem Works.modLight_lights (w : Works) (ch : LightId) (f : Light → Light) : (w.modLight ch f).lights = { w.lights with channels := w.lights.channels.set ch (f w.lights.channels[ch]) } := rfl
@[simp] theorem Works.modLight_climate (w : Works) (ch : LightId) (f : Light → Light) : (w.modLight ch f).climate = w.climate := rfl
@[simp] theorem Works.modLight_water (w : Works) (ch : LightId) (f : Light → Light) : (w.modLight ch f).water = w.water := rfl
@[simp] theorem Works.modLight_motion (w : Works) (ch : LightId) (f : Light → Light) : (w.modLight ch f).motion = w.motion := rfl
@[simp] theorem Works.modLight_vehicle (w : Works) (ch : LightId) (f : Light → Light) : (w.modLight ch f).vehicle = w.vehicle := rfl
@[simp] theorem Works.modLight_link (w : Works) (ch : LightId) (f : Light → Light) : (w.modLight ch f).link = w.link := rfl
@[simp] theorem Works.modLight_inbox (w : Works) (ch : LightId) (f : Light → Light) : (w.modLight ch f).inbox = w.inbox := rfl
@[simp] theorem Works.modLight_free (w : Works) (ch : LightId) (f : Light → Light) : (w.modLight ch f).free = w.free := rfl

@[simp] theorem Works.tell_arbiter (w : Works) (n : Notice) : (w.tell n).arbiter = w.arbiter := rfl
@[simp] theorem Works.tell_stages (w : Works) (n : Notice) : (w.tell n).stages = w.stages := rfl
@[simp] theorem Works.tell_lights (w : Works) (n : Notice) : (w.tell n).lights = w.lights := rfl
@[simp] theorem Works.tell_climate (w : Works) (n : Notice) : (w.tell n).climate = w.climate := rfl
@[simp] theorem Works.tell_water (w : Works) (n : Notice) : (w.tell n).water = w.water := rfl
@[simp] theorem Works.tell_motion (w : Works) (n : Notice) : (w.tell n).motion = w.motion := rfl
@[simp] theorem Works.tell_vehicle (w : Works) (n : Notice) : (w.tell n).vehicle = w.vehicle := rfl
@[simp] theorem Works.tell_link (w : Works) (n : Notice) : (w.tell n).link = w.link := rfl
@[simp] theorem Works.tell_inbox (w : Works) (n : Notice) : (w.tell n).inbox = w.inbox ++ [n] := rfl
@[simp] theorem Works.tell_free (w : Works) (n : Notice) : (w.tell n).free = w.free := rfl

@[simp] theorem Works.setStage_arbiter (w : Works) (x : MotorStage) : (w.setStage x).arbiter = w.arbiter := rfl
@[simp] theorem Works.setStage_stages (w : Works) (x : MotorStage) : (w.setStage x).stages = w.stages := rfl
@[simp] theorem Works.setStage_lights (w : Works) (x : MotorStage) : (w.setStage x).lights = w.lights := rfl
@[simp] theorem Works.setStage_climate (w : Works) (x : MotorStage) : (w.setStage x).climate = w.climate := rfl
@[simp] theorem Works.setStage_water (w : Works) (x : MotorStage) : (w.setStage x).water = w.water := rfl
@[simp] theorem Works.setStage_motion (w : Works) (x : MotorStage) : (w.setStage x).motion = { w.motion with stage := x } := rfl
@[simp] theorem Works.setStage_vehicle (w : Works) (x : MotorStage) : (w.setStage x).vehicle = w.vehicle := rfl
@[simp] theorem Works.setStage_link (w : Works) (x : MotorStage) : (w.setStage x).link = w.link := rfl
@[simp] theorem Works.setStage_inbox (w : Works) (x : MotorStage) : (w.setStage x).inbox = w.inbox := rfl
@[simp] theorem Works.setStage_free (w : Works) (x : MotorStage) : (w.setStage x).free = w.free := rfl

@[simp] theorem Works.setQueue_arbiter (w : Works) (q : List QueueEntry) : (w.setQueue q).arbiter = w.arbiter := rfl
@[simp] theorem Works.setQueue_stages (w : Works) (q : List QueueEntry) : (w.setQueue q).stages = w.stages := rfl
@[simp] theorem Works.setQueue_lights (w : Works) (q : List QueueEntry) : (w.setQueue q).lights = w.lights := rfl
@[simp] theorem Works.setQueue_climate (w : Works) (q : List QueueEntry) : (w.setQueue q).climate = w.climate := rfl
@[simp] theorem Works.setQueue_water (w : Works) (q : List QueueEntry) : (w.setQueue q).water = w.water := rfl
@[simp] theorem Works.setQueue_motion (w : Works) (q : List QueueEntry) : (w.setQueue q).motion = { w.motion with queue := q } := rfl
@[simp] theorem Works.setQueue_vehicle (w : Works) (q : List QueueEntry) : (w.setQueue q).vehicle = w.vehicle := rfl
@[simp] theorem Works.setQueue_link (w : Works) (q : List QueueEntry) : (w.setQueue q).link = w.link := rfl
@[simp] theorem Works.setQueue_inbox (w : Works) (q : List QueueEntry) : (w.setQueue q).inbox = w.inbox := rfl
@[simp] theorem Works.setQueue_free (w : Works) (q : List QueueEntry) : (w.setQueue q).free = w.free := rfl

@[simp] theorem Works.modPulse_arbiter (w : Works) (f : DrainPulse → DrainPulse) : (w.modPulse f).arbiter = w.arbiter := rfl
@[simp] theorem Works.modPulse_stages (w : Works) (f : DrainPulse → DrainPulse) : (w.modPulse f).stages = w.stages := rfl
@[simp] theorem Works.modPulse_lights (w : Works) (f : DrainPulse → DrainPulse) : (w.modPulse f).lights = w.lights := rfl
@[simp] theorem Works.modPulse_climate (w : Works) (f : DrainPulse → DrainPulse) : (w.modPulse f).climate = w.climate := rfl
@[simp] theorem Works.modPulse_water (w : Works) (f : DrainPulse → DrainPulse) : (w.modPulse f).water = { w.water with drain := w.water.drain.modPulse f } := rfl
@[simp] theorem Works.modPulse_motion (w : Works) (f : DrainPulse → DrainPulse) : (w.modPulse f).motion = w.motion := rfl
@[simp] theorem Works.modPulse_vehicle (w : Works) (f : DrainPulse → DrainPulse) : (w.modPulse f).vehicle = w.vehicle := rfl
@[simp] theorem Works.modPulse_link (w : Works) (f : DrainPulse → DrainPulse) : (w.modPulse f).link = w.link := rfl
@[simp] theorem Works.modPulse_inbox (w : Works) (f : DrainPulse → DrainPulse) : (w.modPulse f).inbox = w.inbox := rfl
@[simp] theorem Works.modPulse_free (w : Works) (f : DrainPulse → DrainPulse) : (w.modPulse f).free = w.free := rfl

@[simp] theorem Works.post_arbiter (w : Works) (c : Cause) (s : CauseSet) : (w.post c s).arbiter = w.arbiter := rfl
@[simp] theorem Works.post_stages (w : Works) (c : Cause) (s : CauseSet) : (w.post c s).stages = w.stages := rfl
@[simp] theorem Works.post_lights (w : Works) (c : Cause) (s : CauseSet) : (w.post c s).lights = w.lights := rfl
@[simp] theorem Works.post_climate (w : Works) (c : Cause) (s : CauseSet) : (w.post c s).climate = w.climate := rfl
@[simp] theorem Works.post_water (w : Works) (c : Cause) (s : CauseSet) : (w.post c s).water = w.water := rfl
@[simp] theorem Works.post_motion (w : Works) (c : Cause) (s : CauseSet) : (w.post c s).motion = w.motion := rfl
@[simp] theorem Works.post_vehicle (w : Works) (c : Cause) (s : CauseSet) : (w.post c s).vehicle = w.vehicle := rfl
@[simp] theorem Works.post_link (w : Works) (c : Cause) (s : CauseSet) : (w.post c s).link = { w.link with causes := s, busy := w.link.busy || w.link.mask.getLsbD c.index } := rfl
@[simp] theorem Works.post_inbox (w : Works) (c : Cause) (s : CauseSet) : (w.post c s).inbox = w.inbox := rfl
@[simp] theorem Works.post_free (w : Works) (c : Cause) (s : CauseSet) : (w.post c s).free = w.free := rfl

@[simp] theorem Works.setAux_arbiter (w : Works) (on : Bool) : (w.setAux on).arbiter = w.arbiter := rfl
@[simp] theorem Works.setAux_stages (w : Works) (on : Bool) : (w.setAux on).stages = w.stages := rfl
@[simp] theorem Works.setAux_lights (w : Works) (on : Bool) : (w.setAux on).lights = w.lights := rfl
@[simp] theorem Works.setAux_climate (w : Works) (on : Bool) : (w.setAux on).climate = w.climate := rfl
@[simp] theorem Works.setAux_water (w : Works) (on : Bool) : (w.setAux on).water = w.water := rfl
@[simp] theorem Works.setAux_motion (w : Works) (on : Bool) : (w.setAux on).motion = w.motion := rfl
@[simp] theorem Works.setAux_vehicle (w : Works) (on : Bool) : (w.setAux on).vehicle = w.vehicle := rfl
@[simp] theorem Works.setAux_link (w : Works) (on : Bool) : (w.setAux on).link = { w.link with auxWanted := on } := rfl
@[simp] theorem Works.setAux_inbox (w : Works) (on : Bool) : (w.setAux on).inbox = w.inbox := rfl
@[simp] theorem Works.setAux_free (w : Works) (on : Bool) : (w.setAux on).free = w.free := rfl

@[simp] theorem Works.endFadeOut_arbiter (w : Works) (ch : LightId) : (w.endFadeOut ch).arbiter = w.arbiter := rfl
@[simp] theorem Works.endFadeOut_stages (w : Works) (ch : LightId) : (w.endFadeOut ch).stages = w.stages := rfl
@[simp] theorem Works.endFadeOut_lights (w : Works) (ch : LightId) : (w.endFadeOut ch).lights = w.lights.endFadeOut ch := rfl
@[simp] theorem Works.endFadeOut_climate (w : Works) (ch : LightId) : (w.endFadeOut ch).climate = w.climate := rfl
@[simp] theorem Works.endFadeOut_water (w : Works) (ch : LightId) : (w.endFadeOut ch).water = w.water := rfl
@[simp] theorem Works.endFadeOut_motion (w : Works) (ch : LightId) : (w.endFadeOut ch).motion = w.motion := rfl
@[simp] theorem Works.endFadeOut_vehicle (w : Works) (ch : LightId) : (w.endFadeOut ch).vehicle = w.vehicle := rfl
@[simp] theorem Works.endFadeOut_link (w : Works) (ch : LightId) : (w.endFadeOut ch).link = w.link := rfl
@[simp] theorem Works.endFadeOut_inbox (w : Works) (ch : LightId) : (w.endFadeOut ch).inbox = w.inbox := rfl
@[simp] theorem Works.endFadeOut_free (w : Works) (ch : LightId) : (w.endFadeOut ch).free = w.free := rfl

@[simp] theorem Works.setCondition_arbiter (w : Works) (c : Condition) : (w.setCondition c).arbiter = w.arbiter := rfl
@[simp] theorem Works.setCondition_stages (w : Works) (c : Condition) : (w.setCondition c).stages = w.stages := rfl
@[simp] theorem Works.setCondition_lights (w : Works) (c : Condition) : (w.setCondition c).lights = w.lights := rfl
@[simp] theorem Works.setCondition_climate (w : Works) (c : Condition) : (w.setCondition c).climate = w.climate := rfl
@[simp] theorem Works.setCondition_water (w : Works) (c : Condition) : (w.setCondition c).water = w.water := rfl
@[simp] theorem Works.setCondition_motion (w : Works) (c : Condition) : (w.setCondition c).motion = w.motion := rfl
@[simp] theorem Works.setCondition_vehicle (w : Works) (c : Condition) : (w.setCondition c).vehicle = { w.vehicle with condition := c, silence := if c = .parked then some 0 else none } := rfl
@[simp] theorem Works.setCondition_link (w : Works) (c : Condition) : (w.setCondition c).link = w.link := rfl
@[simp] theorem Works.setCondition_inbox (w : Works) (c : Condition) : (w.setCondition c).inbox = w.inbox := rfl
@[simp] theorem Works.setCondition_free (w : Works) (c : Condition) : (w.setCondition c).free = w.free := rfl

@[simp] theorem Works.restartSilence_arbiter (w : Works) : (w.restartSilence).arbiter = w.arbiter := rfl
@[simp] theorem Works.restartSilence_stages (w : Works) : (w.restartSilence).stages = w.stages := rfl
@[simp] theorem Works.restartSilence_lights (w : Works) : (w.restartSilence).lights = w.lights := rfl
@[simp] theorem Works.restartSilence_climate (w : Works) : (w.restartSilence).climate = w.climate := rfl
@[simp] theorem Works.restartSilence_water (w : Works) : (w.restartSilence).water = w.water := rfl
@[simp] theorem Works.restartSilence_motion (w : Works) : (w.restartSilence).motion = w.motion := rfl
@[simp] theorem Works.restartSilence_vehicle (w : Works) : (w.restartSilence).vehicle = { w.vehicle with silence := w.vehicle.silence.map fun _ => 0 } := rfl
@[simp] theorem Works.restartSilence_link (w : Works) : (w.restartSilence).link = w.link := rfl
@[simp] theorem Works.restartSilence_inbox (w : Works) : (w.restartSilence).inbox = w.inbox := rfl
@[simp] theorem Works.restartSilence_free (w : Works) : (w.restartSilence).free = w.free := rfl

/-! ## One entry of a vector -/

@[simp] theorem Works.out_modOut_self (w : Works) (o : OutId) (f : Output → Output) :
    (w.modOut o f).out o = f (w.out o) := by simp [Works.out]

theorem Works.out_modOut_of_ne (w : Works) {o p : OutId} (f : Output → Output) (h : o ≠ p) :
    (w.modOut o f).out p = w.out p := by
  have : o.val ≠ p.val := fun e => h (Fin.ext e)
  simp [Works.out, this]

@[simp] theorem Works.fault_modFault_self (w : Works) (o : OutId) (c : FaultCause) (f : FaultRecord → FaultRecord) :
    (w.modFault o c f).fault o c = f (w.fault o c) := by simp [Works.fault]

@[simp] theorem Works.light_modLight_self (w : Works) (ch : LightId) (f : Light → Light) :
    (w.modLight ch f).light ch = f (w.light ch) := by simp [Works.light]

theorem Works.light_modLight_of_ne (w : Works) {c d : LightId} (f : Light → Light) (h : c ≠ d) :
    (w.modLight c f).light d = w.light d := by
  have : c.val ≠ d.val := fun e => h (Fin.ext e)
  simp [Works.light, this]

@[simp] theorem Works.out_modFault (w : Works) (o p : OutId) (c : FaultCause) (f : FaultRecord → FaultRecord) :
    (w.modFault o c f).out p = w.out p := rfl

@[simp] theorem Works.out_modLight (w : Works) (ch : LightId) (p : OutId) (f : Light → Light) :
    (w.modLight ch f).out p = w.out p := rfl

@[simp] theorem Works.light_modOut (w : Works) (ch : LightId) (p : OutId) (f : Output → Output) :
    (w.modOut p f).light ch = w.light ch := rfl

@[simp] theorem Works.out_tell (w : Works) (n : Notice) (p : OutId) : (w.tell n).out p = w.out p := rfl

@[simp] theorem Works.light_tell (w : Works) (n : Notice) (ch : LightId) : (w.tell n).light ch = w.light ch := rfl

/-! ## The scanner -/

@[simp] theorem Scanner.sampled_channels (s : Scanner) (ch : Fin 9) : (s.sampled ch).channels = s.channels := rfl
@[simp] theorem Scanner.sampled_adopted (s : Scanner) (ch : Fin 9) : (s.sampled ch).adopted = s.adopted := rfl
@[simp] theorem Scanner.sampled_passCounter (s : Scanner) (ch : Fin 9) : (s.sampled ch).passCounter = s.passCounter := rfl
@[simp] theorem Scanner.sampled_period (s : Scanner) (ch : Fin 9) : (s.sampled ch).period = s.period := rfl
@[simp] theorem Scanner.sampled_passLength (s : Scanner) (ch : Fin 9) : (s.sampled ch).passLength = s.passLength := rfl
@[simp] theorem Scanner.sampled_untilPass (s : Scanner) (ch : Fin 9) : (s.sampled ch).untilPass = s.untilPass := rfl
@[simp] theorem Scanner.sampled_windCount (s : Scanner) (ch : Fin 9) : (s.sampled ch).windCount = s.windCount := rfl
@[simp] theorem Scanner.sampled_windSample (s : Scanner) (ch : Fin 9) : (s.sampled ch).windSample = s.windSample := rfl
@[simp] theorem Scanner.sampled_windLength (s : Scanner) (ch : Fin 9) : (s.sampled ch).windLength = s.windLength := rfl

@[simp] theorem Scanner.startPass_awaited (s : Scanner) (c : Condition) (setup : ChannelSetup) :
    (s.startPass c setup).awaited = allAwaited := rfl

end Sys2Proof.Machine
end

