-- ==== Sys2Proof/Laws/Ops.lean ====
section
/-! SUPPORT. What each shared operation can do, said once: how a command acts, how a request is served and answered, how
notices are delivered, and what an arbiter with an empty Wait List does. The provers cite these instead of unfolding. -/

namespace Sys2Proof.Machine

/-! ## How a command acts -/

@[simp] theorem State.takes_of_powered {s : State} (h : s.powered = true) (f : State → State) :
    s.takes f = .next (f s) := by simp [State.takes, h]

@[simp] theorem State.takes_of_unpowered {s : State} (h : s.powered = false) (f : State → State) :
    s.takes f = .next s := by simp [State.takes, h]

theorem State.takes_cases (s : State) (f : State → State) :
    s.takes f = .next (f s) ∨ s.takes f = .next s := by
  cases h : s.powered <;> simp [h]

/-! ## Notices -/

@[simp] theorem Works.settle_inbox (w : Works) : w.settle.inbox = [] := rfl

theorem Works.drain_of_empty {w : Works} (h : w.inbox = []) (n : Nat) : w.drain n = w := by
  cases n <;> simp [Works.drain, h]

/-- With no notice on its way, delivery changes nothing. -/
theorem Works.settle_of_empty {w : Works} (h : w.inbox = []) : w.settle = w := by
  obtain ⟨_, _, _, _, _, _, _, _, _, _⟩ := w
  simp only at h
  subst h
  rfl

theorem Works.drain_succ {w : Works} {n : Notice} {rest : List Notice} (h : w.inbox = n :: rest) (k : Nat) :
    w.drain (k + 1) = ({ w with inbox := rest }.deliver n).drain k := by simp [Works.drain, h]

/-- A command on the works with nothing left to deliver. -/
theorem State.atWorks_of_empty {s : State} {f : Works → Works} (h : (f s.works).inbox = []) :
    s.atWorks f = { s with works := f s.works } := by simp [State.atWorks, Works.settle_of_empty h]

/-! ## Requests -/

/-- The parts of `State.listens`. -/
theorem State.listens_iff (s : State) : s.listens = true ↔
    s.powered = true ∧ s.works.vehicle.condition ≠ .dormant ∧ s.works.vehicle.restarting = false ∧ s.works.inbox = [] := by
  simp [State.listens, and_assoc]

/-- A wake outside DORMANT is no wake (R171). -/
theorem Works.wake_of_awake {w : Works} (h : w.vehicle.condition ≠ .dormant) (r : WakeReason) : w.wake r = w := by
  unfold Works.wake
  split <;> simp_all

theorem Works.frameHeard_of_awake {w : Works} (h : w.vehicle.condition ≠ .dormant) :
    w.frameHeard = w.restartSilence := by simp [Works.frameHeard, Works.wake_of_awake h]

/-- The reply of a verdict is the answer with its status and payload. -/
theorem State.reply_eq (s : State) (kind : Nat) (v : Verdict) :
    s.reply kind v = s.answered (BitVec.ofNat 8 kind) v.status v.payload := rfl

/-- What serving a request does on a part that listens: the request is heard, taken and answered. -/
theorem State.serve_of_listens {s : State} (h : s.listens = true) (kind : Nat) (take : State → State × Verdict) :
    s.serve kind take =
      (take s.heard).1.answered (BitVec.ofNat 8 kind) (take s.heard).2.status (take s.heard).2.payload := by
  obtain ⟨_, hc, hr, _⟩ := (State.listens_iff s).1 h
  have e : s.modWorks Works.frameHeard = s.heard := by
    simp [State.modWorks, Works.frameHeard_of_awake hc, State.heard, Works.restartSilence]
  simp [State.serve, e, hr, State.heard, State.reply_eq]

/-! ## The arbiter with an empty Wait List -/

theorem Arbiter.serve_of_empty {a : Arbiter} (h : a.waits = []) (now : Nat) : a.serve now = (a, []) := by
  obtain ⟨_, _, _, _, _, _, _⟩ := a
  simp only at h
  subst h
  rfl

/-- A release with nothing waiting removes the output's record and tells OSFS (R50). -/
theorem Arbiter.release_of_empty {a : Arbiter} (h : a.waits = []) (o : OutId) (now : Nat) :
    a.release o now = ({ a with grants := withoutGrant o a.grants },
      if (a.grantOf o).isSome then [(o, .removed)] else []) := by
  obtain ⟨_, _, _, _, _, _, _⟩ := a
  simp only at h
  subst h
  simp [Arbiter.release, withoutWait, Arbiter.serve, Arbiter.scan]

/-- A withdrawal with nothing waiting changes nothing (R50). -/
theorem Arbiter.withdraw_of_empty {a : Arbiter} (h : a.waits = []) (o : OutId) (now : Nat) :
    a.withdraw o now = (a, []) := by
  obtain ⟨_, _, _, _, _, _, _⟩ := a
  simp only at h
  subst h
  rfl

/-! ## The load of a Grant List (R41) -/

@[simp] theorem loadOf_nil : loadOf [] = 0 := rfl

@[simp] theorem loadOf_cons (r : GrantRecord) (gs : List GrantRecord) : loadOf (r :: gs) = r.counted + loadOf gs := rfl

@[simp] theorem loadOf_append (gs hs : List GrantRecord) : loadOf (gs ++ hs) = loadOf gs + loadOf hs := by
  induction gs with
  | nil => simp
  | cons r gs ih => simp [ih, Nat.add_assoc]

theorem loadOf_filter_le (p : GrantRecord → Bool) (gs : List GrantRecord) : loadOf (gs.filter p) ≤ loadOf gs := by
  induction gs with
  | nil => simp
  | cons r gs ih => simp only [List.filter_cons]; split <;> simp <;> omega

/-- Removing an output's record never raises the load. -/
theorem loadOf_withoutGrant_le (o : OutId) (gs : List GrantRecord) : loadOf (withoutGrant o gs) ≤ loadOf gs :=
  loadOf_filter_le _ gs

/-- R45: the amount for the fitting duty is within the available amount. -/
theorem amountFor_fitting_le (p : Proportion) (h : Nat) : amountFor p.rated (p.fitting h) ≤ h := by
  unfold amountFor Proportion.fitting
  split
  · simp_all
  · have h1 : min p.wanted (h * 1000 / p.rated) ≤ h * 1000 / p.rated := Nat.min_le_right _ _
    have h2 : p.rated * min p.wanted (h * 1000 / p.rated) ≤ h * 1000 :=
      (Nat.mul_le_mul_left _ h1).trans (Nat.mul_div_le _ _)
    omega

/-! ## The link -/

/-- The posting of a cause leaves the state outside the link alone. -/
theorem Works.post_eq (w : Works) (c : Cause) (s : CauseSet) :
    w.post c s = { w with link := { w.link with causes := s, busy := w.link.busy || w.link.mask.getLsbD c.index } } := rfl

/-- The receiver is off exactly while a reply is being sent or waits for RELEASE-ATTN's test (R181, R182). -/
@[simp] theorem Link.off_eq_false (l : Link) : l.off = false ↔ l.sending = none ∧ l.releasing = false := by
  simp [Link.off]

/-- While the receiver is off, a byte moves nothing (R181). -/
theorem State.byte_of_off {s : State} (h : s.works.link.off = true) (b : Byte) (g : Bool) : s.byte b g = s := by
  simp [State.byte, h]

/-- While the receiver is off, no gap is judged (R181). -/
theorem State.gapOut_of_off {s : State} (h : s.works.link.off = true) : s.gapOut = s := by
  simp [State.gapOut, Link.gapOver, h]

/-- A gap of 4 ms or less moves nothing (R181). -/
theorem State.gapOut_of_short {s : State} (h : s.works.link.gap ≤ 4) : s.gapOut = s := by
  simp [State.gapOut, Link.gapOver, Nat.not_lt.mpr h]

/-! ## Events that are not due (log entry 10) -/

theorem State.passStart_of_early {s : State} (h : s.scanner.untilPass ≠ 0) : s.passStart = s := by
  simp [State.passStart, h]

theorem State.channelSample_of_not_awaited {s : State} {input : ChannelInput}
    (h : s.scanner.awaits (inputChannel input) = false) : s.channelSample input = s := by
  simp [State.channelSample, h]

theorem State.bankPair_of_not_awaited {s : State} (h : s.scanner.awaits 0 = false) (bv bi : Int) : s.bankPair bv bi = s := by
  simp [State.bankPair, h]

theorem Works.silenceOut_of_early {w : Works} (h : w.silenceDue = false) : w.silenceOut = w := by
  simp [Works.silenceOut, h]

theorem Works.cleanExpiry_of_early {w : Works} {o : OutId} {c : FaultCause} (h : w.cleanDue o c = false) :
    w.cleanExpiry o c = w := by simp [Works.cleanExpiry, h]

/-- After a reset no channel is sampled before a pass starts (R14). -/
@[simp] theorem Scanner.start_awaits (setup : ChannelSetup) (ch : Fin 9) : (Scanner.start setup).awaits ch = false := by
  simp [Scanner.awaits, Scanner.start]

end Sys2Proof.Machine
end

