-- ==== Sys2Proof/WellFormed.lean ====
section
/-! DEFINITION. Which commands are well formed: the bounds that the wire and the tables put on an operand that its type
does not already bound. `exec` gives every command a meaning, well formed or not. -/

namespace Sys2Proof

/-- The longest request payload, in bytes (section 10.1: LEN is 0 to 40). -/
def maxPayload : Nat := 40

/-- The most records of a setup table (section 10.4: BANK-SETUP has 17). -/
def maxSetupRecords : Nat := 17

/-- The largest pulse or current count the part is asked about: a current is presented in mA as a U16 (R196). -/
def maxMilliamps : Nat := 65535

/-- The operands fit the frame or the table they come from:
a WRITE-TABLE payload is two bytes and its records, a WRITE-NEXT payload its records alone, both within `maxPayload`;
a failed verify names a record of a setup table; a measured current is a U16. -/
def Instr.wf : Instr → Bool
  | .writeTable _ _ records => decide (2 + records.length ≤ maxPayload)
  | .writeNext records => decide (records.length ≤ maxPayload)
  | .storeVerify (some record) => decide (record < maxSetupRecords)
  | .currentRefresh _ milliamps => decide (milliamps ≤ maxMilliamps)
  | _ => true

end Sys2Proof
end

