-- ==== Sys2Proof/Laws/PerInstr.lean ====
section
/-! SUPPORT. A statement made for each command by itself: the request that a well-formed command came from fits a frame
(R181: LEN is 0 to 40). -/

namespace Sys2Proof.Laws.RequestFits

open Sys2Proof.Machine

/-- Whatever request, read with whatever pins, becomes this command, its payload fits a frame if the command is well
formed. Of an event that no request asks for, it says that no request becomes it. -/
def Statement (c : Instr) : Prop :=
  c.wf = true → ∀ (r : HostRequest) (pins : Inputs), commandOf r pins = c → r.payload.length ≤ maxPayload

/-- The payload of a request whose command carries no list of records has at most four bytes (R198). -/
theorem payload_le_four (r : HostRequest) :
    (∃ t i records, r = .writeTable t i records) ∨ (∃ records, r = .writeNext records) ∨ r.payload.length ≤ 4 := by
  cases r with
  | writeTable t i records => exact .inl ⟨t, i, records, rfl⟩
  | writeNext records => exact .inr (.inl ⟨records, rfl⟩)
  | readCauses c => cases c <;> exact .inr (.inr (Nat.le_of_ble_eq_true rfl))
  | setClimate m p => cases p <;> exact .inr (.inr (Nat.le_of_ble_eq_true rfl))
  | _ => exact .inr (.inr (Nat.le_of_ble_eq_true rfl))

/-- A command that is neither write came from a request of at most four bytes. -/
theorem of_no_write {c : Instr} (notTable : ∀ t i records, c ≠ .writeTable t i records)
    (notNext : ∀ records, c ≠ .writeNext records) : Statement c := by
  intro _ r pins e
  rcases payload_le_four r with ⟨t, i, records, rfl⟩ | ⟨records, rfl⟩ | h
  · exact absurd e.symm (notTable t i records)
  · exact absurd e.symm (notNext records)
  · exact Nat.le_trans h (by decide)

theorem ident (strapsNow : BitVec 2) : Statement (.ident strapsNow) :=
  of_no_write (fun _ _ _ => nofun) (fun _ => nofun)

theorem readTable (table index count : Byte) : Statement (.readTable table index count) :=
  of_no_write (fun _ _ _ => nofun) (fun _ => nofun)

theorem readNext : Statement .readNext :=
  of_no_write (fun _ _ _ => nofun) (fun _ => nofun)

theorem storeTable (table : Byte) : Statement (.storeTable table) :=
  of_no_write (fun _ _ _ => nofun) (fun _ => nofun)

theorem readCauses (cause : Option Byte) : Statement (.readCauses cause) :=
  of_no_write (fun _ _ _ => nofun) (fun _ => nofun)

theorem clearCauses (causes : FlagSet) : Statement (.clearCauses causes) :=
  of_no_write (fun _ _ _ => nofun) (fun _ => nofun)

theorem releaseAttn : Statement .releaseAttn :=
  of_no_write (fun _ _ _ => nofun) (fun _ => nofun)

theorem attnRetest : Statement .attnRetest :=
  of_no_write (fun _ _ _ => nofun) (fun _ => nofun)

theorem setMask (causes : FlagSet) : Statement (.setMask causes) :=
  of_no_write (fun _ _ _ => nofun) (fun _ => nofun)

theorem switch (output state : Byte) : Statement (.switch output state) :=
  of_no_write (fun _ _ _ => nofun) (fun _ => nofun)

theorem setLight (channel : Byte) (duty : BitVec 16) (fadeTime : Byte) : Statement (.setLight channel duty fadeTime) :=
  of_no_write (fun _ _ _ => nofun) (fun _ => nofun)

theorem recallScene (scene : Byte) : Statement (.recallScene scene) :=
  of_no_write (fun _ _ _ => nofun) (fun _ => nofun)

theorem move (axis direction : Byte) : Statement (.move axis direction) :=
  of_no_write (fun _ _ _ => nofun) (fun _ => nofun)

theorem stopMove (axis : Byte) : Statement (.stopMove axis) :=
  of_no_write (fun _ _ _ => nofun) (fun _ => nofun)

theorem setClimate (mode : Byte) (setpoint : Option (BitVec 16)) : Statement (.setClimate mode setpoint) :=
  of_no_write (fun _ _ _ => nofun) (fun _ => nofun)

theorem resetHeater : Statement .resetHeater :=
  of_no_write (fun _ _ _ => nofun) (fun _ => nofun)

theorem openDrain : Statement .openDrain :=
  of_no_write (fun _ _ _ => nofun) (fun _ => nofun)

theorem closeDrain : Statement .closeDrain :=
  of_no_write (fun _ _ _ => nofun) (fun _ => nofun)

theorem clearFault (output cause : Byte) (load : LoadCheck) : Statement (.clearFault output cause load) :=
  of_no_write (fun _ _ _ => nofun) (fun _ => nofun)

theorem markFull : Statement .markFull :=
  of_no_write (fun _ _ _ => nofun) (fun _ => nofun)

theorem sleep : Statement .sleep :=
  of_no_write (fun _ _ _ => nofun) (fun _ => nofun)

theorem restart : Statement .restart :=
  of_no_write (fun _ _ _ => nofun) (fun _ => nofun)

theorem byteReceived (byte : Byte) (stopBitGood : Bool) : Statement (.byteReceived byte stopBitGood) :=
  of_no_write (fun _ _ _ => nofun) (fun _ => nofun)

theorem linkGapTimeout : Statement .linkGapTimeout :=
  of_no_write (fun _ _ _ => nofun) (fun _ => nofun)

theorem replySent : Statement .replySent :=
  of_no_write (fun _ _ _ => nofun) (fun _ => nofun)

theorem supplyFall : Statement .supplyFall :=
  of_no_write (fun _ _ _ => nofun) (fun _ => nofun)

theorem supplyRise (fellBelowRetention retentionGood : Bool) (pins : Inputs) : Statement (.supplyRise fellBelowRetention retentionGood pins) :=
  of_no_write (fun _ _ _ => nofun) (fun _ => nofun)

theorem storeErase (blank : Bool) : Statement (.storeErase blank) :=
  of_no_write (fun _ _ _ => nofun) (fun _ => nofun)

theorem storeRecordWrite (complete : Bool) : Statement (.storeRecordWrite complete) :=
  of_no_write (fun _ _ _ => nofun) (fun _ => nofun)

theorem storeVerify (differs : Option Nat) : Statement (.storeVerify differs) :=
  of_no_write (fun _ _ _ => nofun) (fun _ => nofun)

theorem passStart : Statement .passStart :=
  of_no_write (fun _ _ _ => nofun) (fun _ => nofun)

theorem windPulse : Statement .windPulse :=
  of_no_write (fun _ _ _ => nofun) (fun _ => nofun)

theorem channelSample (input : ChannelInput) : Statement (.channelSample input) :=
  of_no_write (fun _ _ _ => nofun) (fun _ => nofun)

theorem bankPair (bv bi : Int) : Statement (.bankPair bv bi) :=
  of_no_write (fun _ _ _ => nofun) (fun _ => nofun)

theorem restCalibration : Statement .restCalibration :=
  of_no_write (fun _ _ _ => nofun) (fun _ => nofun)

theorem fullDetection : Statement .fullDetection :=
  of_no_write (fun _ _ _ => nofun) (fun _ => nofun)

theorem currentRefresh (out : OutId) (milliamps : Nat) : Statement (.currentRefresh out milliamps) :=
  of_no_write (fun _ _ _ => nofun) (fun _ => nofun)

theorem overcurrentDwellExpiry (out : OutId) : Statement (.overcurrentDwellExpiry out) :=
  of_no_write (fun _ _ _ => nofun) (fun _ => nofun)

theorem openTimerExpiry (out : OutId) : Statement (.openTimerExpiry out) :=
  of_no_write (fun _ _ _ => nofun) (fun _ => nofun)

theorem retryExpiry (out : OutId) : Statement (.retryExpiry out) :=
  of_no_write (fun _ _ _ => nofun) (fun _ => nofun)

theorem cleanTimerExpiry (out : OutId) (cause : FaultCause) : Statement (.cleanTimerExpiry out cause) :=
  of_no_write (fun _ _ _ => nofun) (fun _ => nofun)

theorem periodBoundary : Statement .periodBoundary :=
  of_no_write (fun _ _ _ => nofun) (fun _ => nofun)

theorem fadeTick (channel : LightId) : Statement (.fadeTick channel) :=
  of_no_write (fun _ _ _ => nofun) (fun _ => nofun)

theorem fadeEnd (channel : LightId) : Statement (.fadeEnd channel) :=
  of_no_write (fun _ _ _ => nofun) (fun _ => nofun)

theorem courtesyTimeout : Statement .courtesyTimeout :=
  of_no_write (fun _ _ _ => nofun) (fun _ => nofun)

theorem flameStateChange (seen : Bool) : Statement (.flameStateChange seen) :=
  of_no_write (fun _ _ _ => nofun) (fun _ => nofun)

theorem ignitionTimeout : Statement .ignitionTimeout :=
  of_no_write (fun _ _ _ => nofun) (fun _ => nofun)

theorem purgeEnd : Statement .purgeEnd :=
  of_no_write (fun _ _ _ => nofun) (fun _ => nofun)

theorem pswChange (closed : Bool) : Statement (.pswChange closed) :=
  of_no_write (fun _ _ _ => nofun) (fun _ => nofun)

theorem dryRunExpiry : Statement .dryRunExpiry :=
  of_no_write (fun _ _ _ => nofun) (fun _ => nofun)

theorem runLimitExpiry : Statement .runLimitExpiry :=
  of_no_write (fun _ _ _ => nofun) (fun _ => nofun)

theorem frostExpiry : Statement .frostExpiry :=
  of_no_write (fun _ _ _ => nofun) (fun _ => nofun)

theorem drainPositionChange (position : DrainPos) : Statement (.drainPositionChange position) :=
  of_no_write (fun _ _ _ => nofun) (fun _ => nofun)

theorem pulseComplete : Statement .pulseComplete :=
  of_no_write (fun _ _ _ => nofun) (fun _ => nofun)

theorem confirmWindowExpiry : Statement .confirmWindowExpiry :=
  of_no_write (fun _ _ _ => nofun) (fun _ => nofun)

theorem axisSwitchChange (switch : AxisSwitch) (closed : Bool) : Statement (.axisSwitchChange switch closed) :=
  of_no_write (fun _ _ _ => nofun) (fun _ => nofun)

theorem hallPulse (axis : Axis) : Statement (.hallPulse axis) :=
  of_no_write (fun _ _ _ => nofun) (fun _ => nofun)

theorem travelReached : Statement .travelReached :=
  of_no_write (fun _ _ _ => nofun) (fun _ => nofun)

theorem moveOverrun : Statement .moveOverrun :=
  of_no_write (fun _ _ _ => nofun) (fun _ => nofun)

theorem stallExpiry : Statement .stallExpiry :=
  of_no_write (fun _ _ _ => nofun) (fun _ => nofun)

theorem jamExpiry : Statement .jamExpiry :=
  of_no_write (fun _ _ _ => nofun) (fun _ => nofun)

theorem driveStart : Statement .driveStart :=
  of_no_write (fun _ _ _ => nofun) (fun _ => nofun)

theorem entryExpiry (axis : Axis) : Statement (.entryExpiry axis) :=
  of_no_write (fun _ _ _ => nofun) (fun _ => nofun)

theorem windHoldExpiry : Statement .windHoldExpiry :=
  of_no_write (fun _ _ _ => nofun) (fun _ => nofun)

theorem ignChange (on : Bool) : Statement (.ignChange on) :=
  of_no_write (fun _ _ _ => nofun) (fun _ => nofun)

theorem dplusChange (on : Bool) : Statement (.dplusChange on) :=
  of_no_write (fun _ _ _ => nofun) (fun _ => nofun)

theorem doorChange (opened : Bool) : Statement (.doorChange opened) :=
  of_no_write (fun _ _ _ => nofun) (fun _ => nofun)

theorem silenceExpiry : Statement .silenceExpiry :=
  of_no_write (fun _ _ _ => nofun) (fun _ => nofun)

theorem writeTable (table index : Byte) (records : List Byte) : Statement (.writeTable table index records) := by
  intro wf r pins e
  rcases payload_le_four r with ⟨t, i, records', rfl⟩ | ⟨records', rfl⟩ | h
  · obtain ⟨rfl, rfl, rfl⟩ := (Instr.writeTable.injEq ..).mp e
    have h := of_decide_eq_true wf
    exact Nat.le_trans (Nat.le_of_eq (Nat.add_comm records'.length 2)) h
  · nomatch e
  · exact Nat.le_trans h (by decide)

theorem writeNext (records : List Byte) : Statement (.writeNext records) := by
  intro wf r pins e
  rcases payload_le_four r with ⟨t, i, records', rfl⟩ | ⟨records', rfl⟩ | h
  · nomatch e
  · obtain rfl := (Instr.writeNext.injEq ..).mp e
    exact of_decide_eq_true wf
  · exact Nat.le_trans h (by decide)

end Sys2Proof.Laws.RequestFits
end

