-- ==== Sys2Proof/Tests/Slice0.lean ====
section
/-! SUPPORT. The checks of well-formedness, one step each of what the spec works out in numbers, and for every statement
that has hypotheses a concrete state and operands that meet them, clause by clause. -/

namespace Sys2Proof.Tests

open Sys2Proof.Machine

-- one theorem at a time: the evaluations are large and a thread for each would not fit the memory limit
set_option Elab.async false

/-! ## Helpers -/

/-- The state after a command (the state itself where there is no next one). -/
def after (c : Instr) (s : State) : State :=
  match exec c s with
  | .next t => t
  | _ => s

/-- The state after some commands, one after another. -/
def run (cs : List Instr) (s : State) : State := cs.foldl (fun t c => after c t) s

def onWorks (f : Works → Works) (s : State) : State := { s with works := f s.works }

/-- A pass has begun and no channel has been sampled yet. -/
def inPass (s : State) : State := { s with scanner := { s.scanner with awaited := 0x01FF#16 } }

/-- The retry time of an output in CUT-WAIT is over. -/
def retryDue (o : OutId) (s : State) : State := onWorks (fun w => w.modOut o fun x => { x with driven := .cutWait (.timing 0) }) s

/-- The pause of the held move is over. -/
def pauseOver (s : State) : State := onWorks (fun w => { w with motion := { w.motion with stage := match w.motion.stage with
  | .pausing h => .pausing { h with pauseLeft := 0 }
  | x => x } }) s

def onAccount (f : Account → Account) (s : State) : State := { s with account := f s.account }

/-! ## Well-formedness: an ill-formed operand for each check -/

theorem test_writeTable_of_39_record_bytes_is_refused : (Instr.writeTable 0 0 (List.replicate 39 0)).wf = false := by decide
theorem test_writeNext_of_41_bytes_is_refused : (Instr.writeNext (List.replicate 41 0)).wf = false := by decide
theorem test_verify_of_record_17_is_refused : (Instr.storeVerify (some 17)).wf = false := by decide
theorem test_current_above_u16_is_refused : (Instr.currentRefresh 0 65536).wf = false := by decide
theorem test_greatest_operands_are_well_formed : (Instr.writeTable 0 0 (List.replicate 38 0)).wf = true
    ∧ (Instr.writeNext (List.replicate 40 0)).wf = true ∧ (Instr.storeVerify (some 16)).wf = true
    ∧ (Instr.currentRefresh 0 65535).wf = true := by decide

/-! ## The wire: bytes written out from section 11.1 and the rules of chapter 11 -/

/-- Section 11.1's request to unit 2: READ-TABLE of CONDITION, index 0, count 1, with its CHECK of 0xE6. -/
theorem test_readTable_frame_of_section_11_1 :
    requestFrame 0x02 2 [0x12, 0x00, 0x01] = [0xC3, 0x02, 0x02, 0x03, 0x12, 0x00, 0x01, 0xE6] := by decide

/-- R198: KIND 2 with that payload is READ-TABLE; KIND 12 is SET-LIGHT with a U16 duty, most significant byte first. -/
theorem test_frames_read : readFrame 2 [0x12, 0x00, 0x01] = .request (.readTable 0x12 0x00 0x01)
    ∧ readFrame 12 [0x03, 0x01, 0xF4, 0x0A] = .request (.setLight 3 500 10)
    ∧ readFrame 8 [0x20, 0x01] = .request (.clearCauses 0x2001) ∧ readFrame 1 [0x00] = .badLength
    ∧ readFrame 24 [] = .unknownKind := by decide

/-! ## Worked sequences of the spec -/

/-- Section 1.10: T_WATER, hold passes 4. -/
def waterSensor (reading : Reading) (hold : Nat) (x : Int) : ChannelState :=
  (after (.channelSample (.tWater x)) (inPass { State.reset with scanner := { State.reset.scanner with
    channels := State.reset.scanner.channels.set 4 ⟨reading, hold, none⟩ } })).scanner.channels[(4 : Fin 9)]

/-- Section 1.10, passes 101, 102, 105 and 106. -/
theorem test_water_sensor_going_open : waterSensor (.valid 41) 0 40 = ⟨.valid 40, 0, some (.sample 40)⟩
    ∧ waterSensor (.valid 40) 0 1500 = ⟨.held 40, 1, some (.sample 1500)⟩
    ∧ waterSensor (.held 40) 3 1500 = ⟨.held 40, 4, some (.sample 1500)⟩
    ∧ waterSensor (.held 40) 4 1500 = ⟨.invalid, 0, some (.sample 1500)⟩ := by decide +kernel

/-- Section 2.16: a bank of 200 Ah with the default thresholds of a lead bank. -/
def bank200 (q : Nat) (confidence : Confidence) (temp : Reading) : State :=
  let setup : BankSetup := { State.reset.works.link.live.bank with capacity := 200 }
  onAccount (fun a => { a with bank := setup, heldCapacity := 200, q := q, confidence := confidence, bankTemp := temp })
    (onWorks (fun w => { w with link := { w.link with live := { w.link.live with bank := setup } } }) (inPass State.reset))

/-- Section 2.16, case 1: a discharge in the cold. -/
theorem test_discharge_in_the_cold :
    let a := (after (.bankPair 12210 (-1234)) (bank200 360000000 .drifted (.valid (-40)))).account
    a.q = 359993830 ∧ a.s = 499 ∧ a.coldPenalty = 70 ∧ a.sEff = 399 ∧ a.socLevel = 1 ∧ a.voltageLevel = 0
      ∧ a.shedLevel = 1 := by decide +kernel

/-- Section 2.16, case 2: the pair at which the rest time is reached, on a lead bank. -/
theorem test_rest_calibration :
    let a := (after (.bankPair 12310 0) (onAccount (fun a => { a with restClock := some 7199500 })
      (bank200 300000000 .drifted (.valid 150)))).account
    a.q = 331200000 ∧ a.confidence = .calibrated ∧ a.restTaken = true ∧ a.s = 460 ∧ a.sEff = 460 ∧ a.socLevel = 1 := by
  decide +kernel

/-- Section 2.16, case 5, pairs 8 and 9: the fourth low reading sets level 3, an invalid BV holds it. -/
theorem test_sagging_bank :
    let s := after (.bankPair 11540 (-100)) (onAccount (fun a => { a with lowCount := 3 })
      (bank200 600000000 .calibrated (.valid 150)))
    s.account.voltageLevel = 3 ∧ s.account.shedLevel = 3 ∧ s.account.lowCount = 4 := by decide +kernel

def grant (o : OutId) (cls ma : Nat) (duty : Option Nat) (floor : Nat) (prop : Option Proportion) (n : Nat) : GrantRecord :=
  ⟨o, cls, ma, duty, ma, floor, prop, n⟩

/-- Section 3.15.1: the Grant List before the fall of the ceiling, in its order. -/
def winterEvening : Arbiter := { State.reset.works.arbiter with
  shedLevel := 1
  arrivals := 45
  grants := [grant HFAN 1 1750 (some 700) 750 (some ⟨2500, 700, 300⟩) 40, grant 0 2 1500 (some 1000) 300 (some ⟨1500, 1000, 200⟩) 41,
    grant AUX 3 5000 none 5000 none 42, grant 1 2 1200 (some 800) 300 (some ⟨1500, 800, 200⟩) 43,
    grant 5 1 450 (some 300) 300 (some ⟨1500, 300, 200⟩) 44, grant PUMP 1 6000 none 6000 none 45] }

/-- Section 3.15.1, t = 0: the cut leaves HFAN at 750 and L6 at 300, a load of 1050; the Wait List is HFAN and L6 TOP-UP,
then L1, L2 and AUX NEW (PUMP asks again in a request of its own). -/
theorem test_ceiling_fall :
    let c := winterEvening.takeShed 3 (defaultShed .lead) 0
    c.arbiter.grants.map (fun r => (r.out, r.ma, r.duty)) = [(HFAN, 750, some 300), (5, 300, some 200)]
      ∧ c.arbiter.load = 1050
      ∧ c.arbiter.waits.map (fun e => (e.out, e.kind)) = [(HFAN, .topUp), (5, .topUp), (0, .new), (1, .new), (AUX, .new)]
      := by decide +kernel

/-- Section 3.15.2: a ceiling of 19 000 at shed level 1 with PUMP and six lights granted, then the heater and AUX. -/
theorem test_barrier_in_place :
    let light (o : OutId) : GrantRecord := grant o 2 1500 (some 1000) 300 (some ⟨1500, 1000, 200⟩) o.val
    let a : Arbiter := { State.reset.works.arbiter with
      shedLevel := 1
      ceilings := ⟨#[40000, 19000, 15000, 6000, 0], rfl⟩
      grants := grant PUMP 1 6000 none 6000 none 9 :: [0, 1, 2, 3, 4, 5].map light }
    let a1 := (a.request ⟨HBRN, 2, 8000, 8000, none, some ⟨HFAN, 1, 750, none⟩⟩ 0).1
    let a2 := (a1.request ⟨AUX, 3, 5000, 5000, none, none⟩ 20000).1
    let a3 := (a2.release 0 70000).1
    let a6 := (((a3.release 1 100000).1.release 2 110000).1.release 3 115000).1
    a2.waits.map (·.out) = [HBRN, AUX] ∧ a3.headroom = 5500 ∧ a3.waits.map (·.out) = [HBRN, AUX]
      ∧ a6.headroom = 1250 ∧ a6.waits.map (·.out) = [AUX] := by decide +kernel

/-- Section 4.13.1, 10.0 s and 10.2 s: AUX at 7000 mA against a trip of 6500 is cut at its dwell. -/
def auxOn : State := after (.switch 11 0) State.reset

theorem test_aux_is_cut_at_its_dwell :
    let s := run [.currentRefresh AUX 7000, .overcurrentDwellExpiry AUX] auxOn
    (s.works.out AUX).driven = .cutWait (.timing 1000)
      ∧ (s.works.out AUX).heldRequest = some ⟨3, 5000, 5000, none⟩
      ∧ (s.works.fault AUX .overcurrent).state = .retrying ∧ (s.works.fault AUX .overcurrent).attempts = 1
      ∧ s.works.arbiter.grants = [] := by decide +kernel

/-- Section 4.13.1, 11.2 s: the retry is granted again, as the next request. -/
theorem test_aux_retries :
    let s := after (.retryExpiry AUX) (retryDue AUX (run [.currentRefresh AUX 7000, .overcurrentDwellExpiry AUX] auxOn))
    (s.works.out AUX).driven = .on ∧ s.works.arbiter.grants.map (fun r => (r.out, r.ma, r.arrival)) = [(AUX, 5000, 2)] := by
  decide +kernel

/-- Section 4.13.3, readings c to i. -/
theorem test_die_temperature :
    let stage (xs : List Int) : Nat :=
      (xs.foldl (fun s x => after (.channelSample (.tDie x)) (inPass s)) State.reset).works.stages.stage
    stage [1105] = 1 ∧ stage [1105, 1260] = 2 ∧ stage [1410, 1350] = 3 ∧ stage [1410, 1290] = 2 ∧ stage [1260, 1140] = 1
      ∧ stage [1105, 990] = 0 := by decide +kernel

/-- Section 10.10: a cause that stays latched sets busy again 100 µs after RELEASE-ATTN. -/
theorem test_release_finds_motion_latched :
    let posted := onWorks (fun w => w.postMotion .awn none none .done none) State.reset
    posted.works.link.busy = true ∧ (after .releaseAttn posted).works.link.busy = false
      ∧ (run [.releaseAttn, .attnRetest] posted).works.link.busy = true := by decide +kernel

/-! ## Witnesses: states and operands that meet the hypotheses of the statements, clause by clause -/

/-- The state right after reset, with a store of WATER-SETUP begun. -/
def storing : State := after (.storeTable 5) State.reset

/-- Something is being sent: the reply to IDENT. -/
def sending : State := after (.ident 0) State.reset

/-- The receiver in a state of its own. -/
def receiving (r : Receiver) : State := onWorks (fun w => { w with link := { w.link with receiver := r } }) State.reset

theorem witness_StepRunsFrontCommand : ({ State.reset with pending := [.sleep] } : State).pending = .sleep :: [] := rfl

theorem witness_StepOnEmptyQueueTicks : State.reset.pending = [] ∧ State.reset.powered = true
    ∧ (after .supplyFall State.reset).pending = [] ∧ (after .supplyFall State.reset).powered = false := by decide +kernel

theorem witness_SupplyFallStopsThePart : auxOn.powered = true ∧ (auxOn.works.out AUX).driven = .on
    ∧ (after .supplyFall auxOn).powered = false := by decide +kernel

theorem witness_SupplyRiseResets : State.reset.powered = true ∧ (after .supplyFall storing).powered = false
    ∧ (after .supplyFall storing).settings.run.isSome := by decide +kernel

theorem witness_IdentReply : State.reset.listens = true := by decide +kernel

theorem witness_TableReads : State.reset.listens = true ∧ (State.reset.works.motion.queue.map (·.axis)).Nodup
    ∧ State.reset.works.motion.window.length = 6 ∧ State.reset.works.link.readCursor = ⟨0, 0⟩
    ∧ (Instr.readTable 14 35 255 = .readTable (BitVec.ofNat 8 14) (BitVec.ofNat 8 35) ((some 255).getD 0)) := by
  decide +kernel

/-- A store of table `n` runs. -/
def storingOf (n : SetupId) (s : State) : State :=
  { s with settings := { s.settings with run := some ⟨n, .erase, 0, 0, s.works.link.live⟩ } }

def word (n : Nat) : BitVec 16 := BitVec.ofNat 16 n

/-- The voltage points of a write, rising. -/
def risingPoints : Vector (BitVec 16) 11 := ⟨#[11000, 11100, 11200, 11300, 11400, 11500, 11600, 11700, 11800, 11900, 25000], rfl⟩

/-- Voltage points whose third is the second again. -/
def flatPoints : Vector (BitVec 16) 11 := ⟨#[11000, 11100, 11100, 11300, 11400, 11500, 11600, 11700, 11800, 11900, 12000], rfl⟩

theorem witness_BankAndShedSetupWrites : State.reset.listens = true ∧ State.reset.settings.run = none
    ∧ State.reset.account.restClock = none ∧ State.reset.works.link.live.bank.chemistry = .lead ∧ 2 ≤ (2 : BitVec 16).toNat
    ∧ Chemistry.lithium.code = (1 : BitVec 16).toNat
    ∧ (∀ k : Fin 10, min 20000 (risingPoints.toList.getD k.val 0).toNat < min 20000 (risingPoints.toList.getD (k.val + 1) 0).toNat)
    ∧ (flatPoints.toList.getD 2 0).toNat ≤ (flatPoints.toList.getD 1 0).toNat
    ∧ (flatPoints.toList.getD 0 0).toNat < (flatPoints.toList.getD 1 0).toNat
    ∧ (onAccount (fun a => { a with restClock := some 0 }) State.reset).listens = true
    ∧ (storingOf 0 State.reset).listens = true ∧ (storingOf 1 State.reset).listens = true := by decide +kernel

/-- The operands of the SHED-SETUP clauses: default thresholds, levels that do not rise, and the three orders broken. -/
theorem witness_BankAndShedSetupWrites_shed :
    (∀ k : Fin 3, [900, 600, 400, 200].getD (k.val + 1) 0 < [900, 600, 400, 200].getD k.val 0)
      ∧ clamp 1 999 (word 1000).toNat ≤ clamp 1 999 (word 2000).toNat
      ∧ clamp 9000 16000 (word 11000).toNat < clamp 9000 16000 (word 11600).toNat
      ∧ clamp 9000 16000 (word 8000).toNat ≤ clamp 9000 16000 (word 9000).toNat
      ∧ (∀ k : Fin 4, [60000, 25000, 15000, 6000, 0].getD (k.val + 1) 0 ≤ [60000, 25000, 15000, 6000, 0].getD k.val 0)
      ∧ min 60000 (word 25000).toNat < min 60000 (word 25001).toNat := by decide +kernel

theorem witness_ClimateWaterMotionAndLinkSetupWrites : State.reset.listens = true ∧ State.reset.settings.run = none
    ∧ storing.listens = true ∧ storing.settings.run.map (·.table) = some 5
    ∧ (storingOf 4 State.reset).listens = true ∧ (storingOf 6 State.reset).listens = true
    ∧ (storingOf 8 State.reset).listens = true ∧ State.reset.works.motion.stage.move? = none
    ∧ ClimateMode.frost.code = (word 3).toNat ∧ 4 ≤ (word 4).toNat ∧ 2 ≤ (word 2).toNat ∧ (word 1).toNat ≤ 1
    ∧ (0x4000#16 &&& ~~~0x3FFF#16 : FlagSet) ≠ 0
    ∧ (onWorks (fun w => { w with link := { w.link with writeCursor := ⟨5, 0⟩ } }) State.reset).listens = true := by
  decide +kernel

theorem witness_LoadSceneAndChannelWrites : State.reset.listens = true ∧ State.reset.settings.run = none
    ∧ (storingOf 2 State.reset).listens = true ∧ (storingOf 3 State.reset).listens = true
    ∧ (storingOf 7 State.reset).listens = true
    ∧ (let r := State.reset.works.link.live.load[(0 : OutId)]
       r.rated < 65536 ∧ r.trip < 65536 ∧ r.dwell < 65536 ∧ r.cls = some 2 ∧ r.floorDuty.isSome ∧ r.openThreshold.isSome
         ∧ r.openMode.isSome ∧ r.shortMode ≠ .report ∧ r.shortMode ≠ .ignore)
    ∧ (State.reset.works.link.live.scenes.scenes[(7 : Fin 8)]).fadeTime < 256
    ∧ 2 ≤ (2 : Byte).toNat ∧ max 0 (min 4 (5 : BitVec 32).toInt) = 4 := by decide +kernel

theorem witness_StorePhases_taken : State.reset.listens = true ∧ State.reset.settings.run = none
    ∧ storing.listens = true ∧ storing.settings.run.isSome := by decide +kernel

theorem witness_StorePhases : storing.settings.run.map (·.phase) = some .erase
    ∧ (after (.storeErase true) storing).settings.run.map (·.phase) = some .write
    ∧ (run [.storeErase true, .storeRecordWrite true, .storeRecordWrite true, .storeRecordWrite true] storing).settings.run.map
        (·.phase) = some .verify ∧ storing.powered = true := by decide +kernel

theorem witness_CauseRequests : State.reset.listens = true ∧ (0x2001#16 : FlagSet) &&& ~~~0x3FFF#16 = 0
    ∧ (0x4000#16 : FlagSet) &&& ~~~0x3FFF#16 ≠ 0 := by decide +kernel

theorem witness_CauseRequests_release : State.reset.listens = true ∧ State.reset.works.link.releasing = false
    ∧ (after .releaseAttn State.reset).works.link.releasing = true ∧ (after .releaseAttn State.reset).powered = true := by
  decide +kernel

/-- R182: from the taking of RELEASE-ATTN to the end of its reply the receiver is off; a SYNC byte begins no frame. -/
theorem test_releaseAttn_receiver_off :
    (run [.releaseAttn, .byteReceived 0xC3 true] State.reset).works.link.receiver = .hunting
      ∧ (run [.releaseAttn, .attnRetest, .byteReceived 0xC3 true] State.reset).works.link.receiver = .hunting
      ∧ (run [.releaseAttn, .attnRetest, .replySent, .byteReceived 0xC3 true] State.reset).works.link.receiver
        = .receiving [] := by decide +kernel

theorem witness_FramesAndSummary : State.reset.works.vehicle.condition ≠ .dormant ∧ State.reset.account.shedLevel ≤ 4
    ∧ 23 < 24 := by decide +kernel

theorem witness_ReceiverMoves : sending.powered = true ∧ sending.works.link.sending.isSome
    ∧ (after .releaseAttn State.reset).works.link.releasing = true ∧ (receiving .ignoring).works.link.releasing = false
    ∧ (receiving .ignoring).works.link.sending = none ∧ (receiving .ignoring).powered = true
    ∧ (receiving (.receiving [0, 12])).works.link.receiver = .receiving [0, 12]
    ∧ (0 : Byte).toNat = (receiving (.receiving [])).works.link.unit.toNat
    ∧ (onWorks (fun w => { w with link := { w.link with gap := 5 } }) (receiving .ignoring)).works.link.sending = none
    ∧ 4 < (onWorks (fun w => { w with link := { w.link with gap := 5 } }) (receiving .ignoring)).works.link.gap
    ∧ ¬4 < (receiving (.receiving [0])).works.link.gap := by decide +kernel

/-- A frame up to its CHECK byte, for each way it can end: the sums that are good, and one that is not. -/
def frameFor (addr kind : Byte) (payload : List Byte) : State :=
  receiving (.receiving (addr :: kind :: BitVec.ofNat 8 payload.length :: payload))

theorem witness_FrameCompletions : (frameFor 0 1 []).lives = true ∧ (frameFor 0 1 []).works.link.sending = none
    ∧ (frameFor 0 1 []).works.link.releasing = false
    ∧ (frameFor 0 1 []).works.vehicle.restarting = false ∧ (frameFor 0 1 []).works.vehicle.condition ≠ .dormant
    ∧ (frameFor 0 1 []).works.link.receiver = .receiving (0 :: 1 :: 0 :: []) ∧ (0 : Byte).toNat = ([] : List Byte).length
    ∧ frameSum (0 :: 1 :: 0 :: [] ++ [0xFF]) = 0 ∧ frameSum (0 :: 1 :: 0 :: [] ++ [0xFE]) ≠ 0
    ∧ frameSum (15 :: 22 :: 0 :: [] ++ [0xDB]) = 0 ∧ frameSum (15 :: 13 :: 1 :: [3] ++ [0xE0]) = 0
    ∧ (HostRequest.recallScene 3).payload = [3] ∧ (HostRequest.recallScene 3).kind = (13 : Byte).toNat
    ∧ frameSum (15 :: 22 :: 1 :: [0] ++ [0xDA]) = 0 ∧ frameSum (15 :: 1 :: 0 :: [] ++ [0xF0]) = 0
    ∧ frameSum (0 :: 24 :: 0 :: [] ++ [0xE8]) = 0 ∧ frameSum (0 :: 1 :: 1 :: [0] ++ [0xFE]) = 0
    ∧ frameSum (0 :: 4 :: 1 :: [18] ++ [0xE9]) = 0
    ∧ (onWorks (fun w => { w with vehicle := { w.vehicle with condition := .dormant } }) (frameFor 15 22 [])).lives = true := by
  decide +kernel

theorem witness_RequestFrameIsTheCommand : State.reset.powered = true ∧ State.reset.works.link.sending = none
    ∧ State.reset.works.link.releasing = false
    ∧ State.reset.works.link.receiver = .hunting ∧ (HostRequest.writeTable 5 0 (List.replicate 38 0)).payload.length ≤ 40 := by
  decide +kernel

theorem witness_RestartAndReplySent : State.reset.listens = true ∧ State.reset.settings.run = none
    ∧ storing.listens = true ∧ storing.settings.run.isSome
    ∧ sending.works.link.sending.isSome ∧ sending.works.vehicle.restarting = false
    ∧ (after .restart auxOn).works.link.sending.isSome ∧ (after .restart auxOn).works.vehicle.restarting = true := by
  decide +kernel

theorem witness_AuxSwitched : State.reset.listens = true ∧ State.reset.works.link.auxWanted = false
    ∧ State.reset.works.resting AUX = true ∧ State.reset.works.arbiter.waits = [] ∧ State.reset.works.stages.stage < 3
    ∧ State.reset.works.arbiter.permits ((State.reset.works.link.live.load[(11 : Fin 12)]).cls.getD 0) = true
    ∧ (State.reset.works.link.live.load[(11 : Fin 12)]).rated ≤ State.reset.works.arbiter.headroom
    ∧ auxOn.listens = true ∧ auxOn.works.link.auxWanted = true ∧ auxOn.works.driving AUX = true
    ∧ auxOn.works.arbiter.waits = [] := by decide +kernel

/-- L1 set to 500 from dark: its grant is held in full and its fade waits. -/
def lit : State := after (.setLight 0 500 0) State.reset

/-- L1 lit at 500, its fade over. -/
def lit500 : State := run [.periodBoundary, .fadeEnd 0] lit

theorem witness_LightsSetWithinTheirGrants : lit500.listens = true
    ∧ (lit500.works.light 0).cover = some ⟨750, 500⟩ ∧ (lit500.works.light 0).lowering = none
    ∧ (lit500.works.light 0).stance = .full := by decide +kernel

/-- The same for a scene: L2 alone, at 400, within a grant for 500. -/
def sceneReady : State :=
  onWorks (fun w => { w with link := { w.link with live := { w.link.live with scenes := { w.link.live.scenes with
    scenes := w.link.live.scenes.scenes.set 2 ⟨⟨#[none, some 400, none, none, none, none], rfl⟩, 3⟩ } } } })
    (run [.setLight 1 500 0, .periodBoundary, .fadeEnd 1] State.reset)

theorem witness_LightsSetWithinTheirGrants_scene : sceneReady.listens = true
    ∧ (sceneReady.works.link.live.scenes.scenes[(2 : Fin 8)]).duties = ⟨#[none, some 400, none, none, none, none], rfl⟩
    ∧ (sceneReady.works.light 1).cover = some ⟨750, 500⟩ ∧ (sceneReady.works.light 1).lowering = none
    ∧ (sceneReady.works.light 1).stance = .full := by decide +kernel

theorem witness_DarkLightGranted : State.reset.listens = true ∧ State.reset.works.resting 0 = true
    ∧ State.reset.works.arbiter.waits = [] ∧ (State.reset.works.light 0).cover = none
    ∧ (State.reset.works.light 0).lowering = none ∧ (State.reset.works.light 0).applied = 0
    ∧ (State.reset.works.light 0).stance = .none ∧ (State.reset.works.light 0).fade = none
    ∧ State.reset.works.arbiter.permits ((State.reset.works.link.live.load[(0 : OutId)]).cls.getD 0) = true
    ∧ ((State.reset.works.link.live.load[(0 : OutId)]).rated * 1000 + 999) / 1000 ≤ State.reset.works.arbiter.headroom := by
  decide +kernel

/-- L1 at 500 with a duty of 300 in its slot, and L2 dark with a grant and a duty of 200 in its slot. -/
def atBoundary : State := onWorks (fun w => (w.modLight 0 fun l => { l with pending := some 300 }).modLight 1 fun l =>
  { l with pending := some 200, fade := none }) (after (.setLight 1 500 0) lit500)

theorem witness_PeriodBoundary : atBoundary.lives = true
    ∧ (∀ ch : LightId, (atBoundary.works.light ch).fade = none ∧ (atBoundary.works.light ch).lowering = none)
    ∧ (atBoundary.works.out 0).driven = .on ∧ (atBoundary.works.out 1).driven = .off
    ∧ (atBoundary.works.out 1).grant.isSome ∧ atBoundary.works.stages.stage < 3 := by decide +kernel

/-- R92: REDUCED followed at once by a RAISED that leaves the TOP-UP entry: L1 fades to 500 and its entry asked for 900. -/
def raisedAfterReduced : State := onWorks (fun w => ({ w with
  arbiter := { w.arbiter with
    grants := [⟨0, 3, 900, some 600, 1350, 450, some ⟨1500, 900, 300⟩, 1⟩]
    waits := [⟨0, none, 3, 1350, 450, some ⟨1500, 900, 300⟩, .topUp, 1, 0⟩] }
  inbox := [.grant 0 (.reduced 750 (some 400)), .grant 0 (.raised 900 (some 600) false)] }.modLight 0 fun l => { l with
    wanted := 500, aim := 500, applied := 700, cover := some ⟨1350, 900⟩, stance := .full }).settle) State.reset

theorem test_raised_corrects_entry : raisedAfterReduced.works.arbiter.waits = []
    ∧ (raisedAfterReduced.works.light 0).stance = .full := by decide +kernel

/-- A fade of L1 from 500 to 0 over a second, its first tick still to come; and one to its full grant. -/
def fading : State := run [.setLight 0 0 10, .periodBoundary] lit500

def fadingUp : State := onWorks (fun w => w.modLight 0 fun l => { l with applied := 200, fade := some ⟨500, 50, 49, some 200, 0⟩ })
  lit500

theorem witness_FadeTicksAndEnds : fading.lives = true ∧ (fading.works.light 0).fade = some ⟨0, 50, 0, some 500, 0⟩
    ∧ (fading.works.light 0).cover = some ⟨750, 500⟩ ∧ (fading.works.light 0).lowering = none
    ∧ (fading.works.light 0).stance = .full ∧ (fading.works.light 0).applied ≠ 0 ∧ fading.works.driving 0 = true
    ∧ fading.works.arbiter.waits = [] ∧ (fadingUp.works.light 0).fade = some ⟨500, 50, 49, some 200, 0⟩
    ∧ (fadingUp.works.light 0).cover = some ⟨750, 500⟩ ∧ (fadingUp.works.light 0).applied ≠ 500 ∧ fadingUp.lives = true
    ∧ (State.reset.works.light 0).fade = none ∧ (lit.works.light 0).fade = some ⟨500, 0, 0, none, 0⟩ := by decide +kernel

/-- A fade of L1 from 500 to 200, its last tick placed: its end asks for the smaller grant. -/
def fadingDown : State := run [.setLight 0 200 10, .periodBoundary] lit500

theorem witness_FadeTicksAndEnds_between : fadingDown.lives = true
    ∧ (fadingDown.works.light 0).fade = some ⟨200, 50, 0, some 500, 0⟩ ∧ (fadingDown.works.light 0).aim = 200
    ∧ (fadingDown.works.light 0).cover = some ⟨750, 500⟩ ∧ (fadingDown.works.light 0).lowering = none
    ∧ (fadingDown.works.light 0).stance = .full ∧ (fadingDown.works.light 0).applied = 500
    ∧ fadingDown.works.driving 0 = true ∧ fadingDown.works.arbiter.waits = []
    ∧ fadingDown.works.arbiter.permits ((fadingDown.works.link.live.load[(0 : OutId)]).cls.getD 0) = true
    ∧ ((fadingDown.works.link.live.load[(0 : OutId)]).rated * 200 + 999) / 1000 ≤ fadingDown.works.arbiter.headroom := by
  decide +kernel

/-- The courtesy light of an opened door, its timer run out. -/
def courtesyOver : State := onWorks (fun w => { w with lights := { w.lights with courtesy := .holding 0 } })
  (run [.doorChange true, .periodBoundary, .fadeEnd 4] State.reset)

/-- The timer has run out with L5 dark, as a refused grant leaves it. -/
def darkCourtesy : State := onWorks (fun w => { w with lights := { w.lights with courtesy := .holding 0 } }) State.reset

theorem witness_DoorAndCourtesyLight : courtesyOver.lives = true ∧ courtesyOver.works.lights.courtesy = .holding 0
    ∧ (courtesyOver.works.light 4).cover.isSome ∧ (courtesyOver.works.light 4).lowering = none
    ∧ (courtesyOver.works.light 4).stance = .full ∧ (courtesyOver.works.light 4).wanted = 0
    ∧ darkCourtesy.lives = true ∧ (darkCourtesy.works.light 4).cover = none ∧ (darkCourtesy.works.light 4).stance = .none
    ∧ (darkCourtesy.works.light 4).lowering = none ∧ (darkCourtesy.works.light 4).wanted = 0
    ∧ State.reset.works.lights.courtesy = .idle
    ∧ (run [.doorChange true] State.reset).works.lights.courtesy = .holding 120000 := by decide +kernel

/-- AWN UNKNOWN with its retracted switch open. -/
def awnOut : State := after (.axisSwitchChange .awnRetracted false) State.reset

/-- AWN retracting, or extending from its known place. -/
def awnRetracting : State := after .driveStart (pauseOver (after (.move 0 1) awnOut))

def awnExtending : State := after .driveStart (pauseOver (after (.move 0 0) State.reset))

theorem witness_MoveRequestsTaken : awnOut.listens = true ∧ awnOut.works.motion.stage = .idle ∧ awnOut.works.motion.queue = []
    ∧ (awnOut.works.motion.axis .awn).state ≠ .retracted ∧ awnOut.works.resting MOTOR = true
    ∧ awnOut.works.arbiter.waits = [] ∧ awnOut.works.arbiter.permits 0 = true
    ∧ awnOut.works.motion.last ≠ some (.awn, .retract) ∧ State.reset.works.motion.stage = .idle
    ∧ (State.reset.works.motion.axis .awn).state = .retracted
    ∧ (after .travelReached awnExtending).listens = true ∧ (after .travelReached awnExtending).works.motion.stage = .idle
    ∧ ((after .travelReached awnExtending).works.motion.axis .awn).state = .extended
    ∧ (after .travelReached awnExtending).works.vehicle.condition = .parked
    ∧ (after .travelReached awnExtending).works.motion.windHold = none := by decide +kernel

def heldExtend : HeldMove := ⟨⟨.awn, .extend, .host, 0⟩, 0, none, 0, 0, true⟩

def heldExtendAt : HeldMove := { heldExtend with known := false }

def heldRetract : HeldMove := ⟨⟨.awn, .retract, .host, 0⟩, 0, none, 0, 0, false⟩

/-- AWN extending with its stall timer running. -/
def awnStalling : State := onWorks (fun w => { w with motion := { w.motion with
  stage := .driving { heldExtend with stallTimer := some 400 } } }) awnExtending

theorem witness_MoveEndings : awnExtending.lives = true ∧ awnExtending.listens = true
    ∧ awnExtending.works.motion.stage = .driving heldExtend ∧ awnExtending.works.motion.queue = []
    ∧ awnExtending.works.motion.adopted = awnExtending.works.link.live.motion ∧ awnExtending.works.driving MOTOR = true
    ∧ awnExtending.works.arbiter.waits = [] ∧ awnExtending.works.motion.autoRetract .awn = false
    ∧ awnRetracting.lives = true ∧ awnRetracting.works.motion.stage = .driving heldRetract
    ∧ awnRetracting.works.driving MOTOR = true ∧ awnRetracting.works.motion.queue = []
    ∧ awnStalling.lives = true ∧ awnStalling.works.driving MOTOR = true
    ∧ awnStalling.works.motion.stage = .driving { heldExtend with stallTimer := some 400 } := by decide +kernel

/-- The same with the jam timer at its limit. -/
def awnJammed : State := onWorks (fun w => { w with motion := { w.motion with
  stage := .driving { heldExtend with jamTimer := 500 } } }) awnExtending

/-- STEP extending, its extended switch open. -/
def stepExtending : State := after .driveStart (pauseOver (after (.move 1 0) State.reset))

theorem witness_MoveEndings_switches : awnJammed.lives = true
    ∧ awnJammed.works.motion.stage = .driving { heldExtend with jamTimer := 500 } ∧ awnJammed.works.driving MOTOR = true
    ∧ switchAxis .awnRetracted = (.awn, decide (heldRetract.entry.direction = .retract))
    ∧ (awnRetracting.works.motion.axis .awn).retractedSwitch = false
    ∧ awnRetracting.works.motion.adopted = awnRetracting.works.link.live.motion
    ∧ stepExtending.lives = true ∧ stepExtending.works.driving MOTOR = true ∧ stepExtending.works.motion.queue = []
    ∧ stepExtending.works.motion.stage.move?.map (·.entry) = some ⟨.step, .extend, .host, 0⟩
    ∧ switchAxis .stepExtended = (.step, false) ∧ (stepExtending.works.motion.axis .step).extendedSwitch = false
    ∧ stepExtending.works.arbiter.waits.isEmpty := by decide +kernel

theorem witness_MoveEndings_none_driven : ∀ h, State.reset.works.motion.stage ≠ .driving h := fun _ => by
  rw [show State.reset.works.motion.stage = .idle from rfl]; exact nofun

/-- AWN held in PAUSING, its pause over: to go out, and to come in. -/
def awnToGo : State := pauseOver (after (.move 0 0) State.reset)

def awnToCome : State := pauseOver (after (.move 0 1) awnOut)

theorem witness_MotionTimers : awnToGo.lives = true ∧ awnToGo.works.motion.stage = .pausing heldExtendAt
    ∧ (awnToGo.works.out MOTOR).driven = .off ∧ (awnToGo.works.out MOTOR).grant.isSome
    ∧ (awnToGo.works.motion.axis .awn).state ≠ .unknown ∧ awnToGo.works.vehicle.condition = .parked
    ∧ awnToGo.works.motion.windHold = none ∧ awnToGo.works.stages.stage < 3
    ∧ awnToCome.lives = true ∧ awnToCome.works.motion.stage = .pausing heldRetract
    ∧ (awnToCome.works.motion.axis .awn).retractedSwitch = false ∧ (awnToCome.works.out MOTOR).driven = .off
    ∧ (awnToCome.works.out MOTOR).grant.isSome
    ∧ (after (.move 0 0) State.reset).works.motion.stage = .pausing { heldExtendAt with pauseLeft := 200 } := by decide +kernel

theorem witness_PulsesAndSwitchChanges : awnExtending.lives = true ∧ awnExtending.works.motion.stage = .driving heldExtend
    ∧ (awnExtending.works.motion.axis .awn).position.getD 0 < awnExtending.works.motion.adopted.travel .awn
    ∧ awnRetracting.works.motion.stage = .driving heldRetract
    ∧ heldRetract.count + 1 ≤ 120 * awnRetracting.works.motion.adopted.travel .awn / 100 := by decide +kernel

theorem witness_PulsesAndSwitchChanges_undriven : State.reset.lives = true
    ∧ (State.reset.works.motion.axis .awn).retractedSwitch = !false
    ∧ (State.reset.works.motion.axis .step).extendedSwitch = !true
    ∧ (awnOut.works.motion.axis .awn).retractedSwitch = !true := by decide +kernel

/-- STEP asks to go out behind a move of AWN. -/
def stepQueued : State := after (.move 1 0) awnRetracting

/-- The same, 30 s later, and with the wind hold run out. -/
def stepExpired : State := onWorks (fun w => { w with
  vehicle := { w.vehicle with uptime := 30000 }
  motion := { w.motion with windHold := some 0 } }) stepQueued

theorem witness_MotionTimers_expiries : stepExpired.lives = true
    ∧ stepExpired.works.motion.entryOf .step = some ⟨.step, .extend, .host, 0⟩
    ∧ 0 + 30000 ≤ stepExpired.works.vehicle.uptime ∧ stepExpired.works.motion.stage = .driving heldRetract
    ∧ stepExpired.works.motion.windHold = some 0
    ∧ stepQueued.works.motion.entryOf .step = some ⟨.step, .extend, .host, 0⟩
    ∧ stepQueued.works.vehicle.uptime < 0 + 30000 ∧ stepQueued.works.motion.windHold ≠ some 0 := by decide +kernel

/-- The heater in a state of its own. -/
def heater (h : Heater) (s : State) : State := onWorks (fun w => { w with
  climate := { w.climate with heater := h }, water := { w.water with heaterCopy := h.phase } }) s

theorem witness_ClimateRequestsInLockout : (heater (.lockout .ignition) State.reset).listens = true
    ∧ (heater (.lockout .ignition) State.reset).works.climate.heater = .lockout .ignition := by decide +kernel

theorem witness_ClimateRequestsInLockout_reset : ((heater (.lockout .ignition) State.reset).works.out HBRN).driven ≠ .latched
    ∧ ((heater (.lockout .ignition) State.reset).works.out HFAN).driven ≠ .latched
    ∧ (heater (.lockout .ignition) State.reset).works.climate.heatDemand = false
    ∧ State.reset.works.climate.heater = .off := by decide +kernel

/-- The heater IGNITING for cold water, COMFORT, and both outputs granted. -/
def igniting : State := run [.channelSample (.tWater 40), .setClimate 1 none] (inPass State.reset)

theorem witness_FlameChanges : igniting.lives = true ∧ igniting.works.climate.heater = .igniting 0
    ∧ igniting.works.climate.flame = false ∧ igniting.works.driving HBRN = true ∧ igniting.works.arbiter.waits = []
    ∧ igniting.works.climate.fanDuty = igniting.works.climate.fanWanted
    ∧ (after (.flameStateChange true) (heater (.lockout .ignition) State.reset)).works.climate.flame = true := by
  decide +kernel

/-- The flame has been SEEN: RUNNING, with the fan driven. -/
def running : State := after (.flameStateChange true) igniting

theorem witness_FlameChanges_purges : running.lives = true ∧ running.works.climate.heater = .running
    ∧ running.works.climate.flame = !false ∧ running.works.resting HBRN = true ∧ running.works.driving HFAN = true
    ∧ running.works.arbiter.waits = [] ∧ running.works.arbiter.permits 0 = true ∧ running.works.stages.stage < 3
    ∧ State.reset.works.climate.heater = .off ∧ State.reset.works.climate.flame = !true
    ∧ State.reset.works.resting HBRN = true ∧ State.reset.works.resting HFAN = true := by decide +kernel

def offPurge : Purge := ⟨.demandOff, 60, 60000, .off⟩

/-- The fan drives a purge that leads to OFF. -/
def purging : State := heater (.purging offPurge)
  (run [.setClimate 0 none] igniting)

/-- The same with a purge that leads to LOCKOUT, the burner at rest. -/
def purgingToLockout : State := heater (.purging { offPurge with after := .lockout .ignition }) (after (.setClimate 0 none) running)

theorem witness_PurgeStartsAndEnds : igniting.lives = true ∧ igniting.works.climate.heater = .igniting 0
    ∧ (heater (.igniting 90000) igniting).lives = true ∧ (heater (.igniting 90000) igniting).works.driving HBRN = true
    ∧ (heater (.igniting 90000) igniting).works.driving HFAN = true ∧ igniting.works.arbiter.permits 0 = true
    ∧ igniting.works.arbiter.waits = []
    ∧ purging.lives = true ∧ purging.works.climate.heater = .purging offPurge ∧ purging.works.climate.flame = false
    ∧ offPurge.seconds * 1000 ≤ offPurge.clock
    ∧ purging.works.climate.heatDemand = false ∧ purging.works.driving HFAN = true ∧ purging.works.arbiter.waits = []
    ∧ purgingToLockout.lives = true ∧ purgingToLockout.works.driving HFAN = true
    ∧ purgingToLockout.works.resting HBRN = true ∧ purgingToLockout.works.arbiter.waits = [] := by decide +kernel

/-- An output's overcurrent mode, with its over-trip timer running. -/
def tripping (o : OutId) (mode : FaultMode) (s : State) : State := onWorks (fun w => w.modOut o fun x => { x with
  overTimer := some 3, load := { x.load with overcurrentMode := mode } }) s

/-- An arbiter within its ceiling, one record an output and nobody waiting, is sound. -/
theorem sound_of_none_waiting {a : Arbiter} (load : a.load ≤ a.ceiling) (once : (a.grants.map (·.out)).Nodup)
    (none : a.waits = []) : a.sound := by
  simp [Arbiter.sound, load, once, none]

theorem witness_PurgeStartsAndEnds_sound : (inPass igniting).works.arbiter.sound :=
  sound_of_none_waiting (by decide +kernel) (by decide +kernel) (by decide +kernel)

/-- The four ways a fire is revoked: the thermal stage, a cut of each output, a latch of each. -/
theorem witness_PurgeStartsAndEnds_revoked : (inPass igniting).lives = true ∧ igniting.works.stages.stage < 2
    ∧ (inPass igniting).scanner.awaited.getLsbD 5 = true ∧ (igniting.scanner.adopted[(5 : Fin 9)]).enabled = true
    ∧ (igniting.scanner.adopted[(5 : Fin 9)]).minimum ≤ 1250 ∧ (1250 : Int) ≤ (igniting.scanner.adopted[(5 : Fin 9)]).maximum
    ∧ igniting.works.arbiter.shedLevel ≤ 4 ∧ (∀ g ∈ igniting.works.arbiter.grants, g.cls ≠ 0)
    ∧ (tripping HFAN .retrySlow igniting).lives = true ∧ ((tripping HFAN .retrySlow igniting).works.out HFAN).overTimer.isSome
    ∧ (tripping HBRN .latch igniting).works.driving HBRN = true ∧ (tripping HBRN .latch igniting).works.climate.heater ≠ .running
    ∧ (tripping HFAN .latch running).works.climate.heater = .running ∧ (tripping HFAN .latch running).works.resting HBRN = true
    ∧ (tripping HFAN .latch running).works.driving HFAN = true := by decide +kernel

/-- Heat is wanted in LOCKOUT, and room for both outputs; and AWAIT-GRANT with AUX in the way. -/
def wantedLockout : State := heater (.lockout .ignition) (onWorks (fun w => { w with
  climate := { w.climate with waterDemand := true, mode := .comfort } }) State.reset)

def awaitingBehindAux : State :=
  after .resetHeater (onWorks (fun w => { w with arbiter := { w.arbiter with ceilings := ⟨#[10000, 0, 0, 0, 0], rfl⟩ } })
    (after (.switch 11 0) wantedLockout))

theorem witness_HeaterIgnites : wantedLockout.listens = true ∧ wantedLockout.works.climate.flame = false
    ∧ wantedLockout.works.stages.stage < 3 ∧ wantedLockout.works.resting HBRN = true ∧ wantedLockout.works.resting HFAN = true
    ∧ wantedLockout.works.arbiter.waits = [] ∧ wantedLockout.works.climate.heater = .lockout .ignition
    ∧ wantedLockout.works.climate.heatDemand = true ∧ wantedLockout.works.arbiter.permits 2 = true
    ∧ wantedLockout.works.arbiter.permits 1 = true
    ∧ (wantedLockout.works.link.live.load[(8 : Fin 12)]).cls = some 2 ∧ (wantedLockout.works.link.live.load[(7 : Fin 12)]).cls = some 1
    ∧ (wantedLockout.works.link.live.load[(8 : Fin 12)]).rated + 750 ≤ wantedLockout.works.arbiter.headroom
    ∧ (let s := inPass (heater .off wantedLockout)
       s.listens = true ∧ s.works.climate.heater = .off ∧ s.works.climate.mode ≠ .off ∧ s.scanner.awaited.getLsbD 4 = true
         ∧ (s.scanner.adopted[(4 : Fin 9)]).enabled = true ∧ (s.scanner.adopted[(4 : Fin 9)]).minimum ≤ 50
         ∧ (50 : Int) ≤ (s.scanner.adopted[(4 : Fin 9)]).maximum) := by decide +kernel

theorem witness_HeaterIgnites_awaiting : awaitingBehindAux.listens = true
    ∧ awaitingBehindAux.works.climate.heater = .awaitGrant ∧ awaitingBehindAux.works.link.auxWanted = true
    ∧ awaitingBehindAux.works.driving AUX = true ∧ awaitingBehindAux.works.climate.heatDemand = true
    ∧ awaitingBehindAux.works.climate.fanWanted = awaitingBehindAux.works.climate.adopted.fanFloor
    ∧ awaitingBehindAux.works.arbiter.waits = [⟨HBRN, some ⟨HFAN, 1, 750, some ⟨2500, 300, 300⟩⟩, 2, 8000, 8000, none, .new, 2, 0⟩]
    ∧ (awaitingBehindAux.works.out HBRN).driven = .off ∧ (awaitingBehindAux.works.out HFAN).driven = .off
    ∧ 8750 ≤ awaitingBehindAux.works.arbiter.ceiling
        - loadOf (awaitingBehindAux.works.arbiter.grants.filter fun r => r.out != AUX) := by decide +kernel

/-- The drain in a state of its own, at a place, with water at a temperature. -/
def drainIs (d : Drain) (p : DrainPos) (t : Int) (s : State) : State := onWorks (fun w => { w with
  water := { w.water with drain := d, position := p, waterCopy := .valid t, frost := .running 5 } }) s

theorem witness_DrainPulseStarts : State.reset.lives = true ∧ State.reset.listens = true ∧ State.reset.works.resting DRAIN = true
    ∧ State.reset.works.arbiter.waits = [] ∧ (State.reset.works.link.live.load[(9 : Fin 12)]).cls = some 0
    ∧ State.reset.works.arbiter.permits 0 = true ∧ State.reset.works.stages.stage < 3 ∧ State.reset.works.water.psw = false
    ∧ State.reset.works.water.pump = .idle ∧ State.reset.works.water.dryLatch = false
    ∧ State.reset.works.water.limitLatch = false ∧ State.reset.works.resting PUMP = true
    ∧ (State.reset.works.out PUMP).heldRequest = none ∧ State.reset.works.water.drain = .closed
    ∧ State.reset.works.water.position ≠ .opened
    ∧ (drainIs .opened .opened 70 State.reset).works.resting DRAIN = true
    ∧ (drainIs .opened .opened 70 State.reset).works.water.waterCopy.usable = some 70
    ∧ (onWorks (fun w => { w with water := { w.water with frost := .running 900000 } }) State.reset).works.resting DRAIN = true
    ∧ State.reset.works.water.adopted.frostTime * 1000 ≤ 900000 := by decide +kernel

/-- An opening pulse, started. -/
def opening : State := after .openDrain State.reset

theorem witness_DrainPulseEvents : State.reset.lives = true ∧ State.reset.works.water.drain = .closed
    ∧ State.reset.works.water.position ≠ .opened ∧ opening.lives = true ∧ opening.works.arbiter.waits = []
    ∧ opening.works.water.drain = .opening ⟨true, false, 0, 0⟩ ∧ opening.works.water.position ≠ .opened
    ∧ opening.works.driving DRAIN = true ∧ opening.works.water.psw = false ∧ opening.works.water.pump = .idle
    ∧ opening.works.resting PUMP = true ∧ (opening.works.out PUMP).heldRequest = none
    := by decide +kernel

/-- The pulses of the other clauses: at 2 s, past its window, and closing to CLOSED with the frost timer EXPIRED. -/
theorem witness_DrainPulseEvents_closing :
    let at2s := drainIs (.opening ⟨true, false, 2000, 2000⟩) .neither 20 opening
    let past := drainIs (.closing ⟨true, true, 2000, 5000⟩) .neither 20 State.reset
    let frosty := onWorks (fun w => { w with water := { w.water with frost := .expired } }) past
    at2s.lives = true ∧ at2s.works.driving DRAIN = true ∧ at2s.works.resting PUMP = true ∧ at2s.works.arbiter.waits = []
      ∧ past.lives = true ∧ past.works.resting DRAIN = true ∧ past.works.water.frost ≠ .expired
      ∧ past.works.water.position ≠ .closed ∧ past.works.arbiter.waits = [] ∧ past.works.resting PUMP = true
      ∧ frosty.works.water.frost = .expired ∧ frosty.works.resting DRAIN = true ∧ frosty.works.arbiter.permits 0 = true
      ∧ (frosty.works.link.live.load[(9 : Fin 12)]).cls = some 0 ∧ frosty.works.stages.stage < 3 := by decide +kernel

/-- The fresh tank accepted at a band. -/
def freshBand (band : Nat) (s : State) : State := onWorks (fun w => { w with
  water := { w.water with fresh := { w.water.fresh with accepted := some band } } }) s

/-- The pump runs with an empty tank. -/
def pumping : State := after (.pswChange true) (freshBand 0 State.reset)

/-- Its timers at their limits. -/
def pumpingOver : State := onWorks (fun w => { w with water := { w.water with dryTimer := some 15000, runTimer := some 300000 } })
  pumping

theorem witness_PumpMoves : (freshBand 2 State.reset).lives = true ∧ (freshBand 2 State.reset).works.arbiter.waits = []
    ∧ (freshBand 2 State.reset).works.vehicle.condition ≠ .dormant ∧ (freshBand 2 State.reset).works.water.greyFull = false
    ∧ (freshBand 2 State.reset).works.water.fresh.accepted = some 2 ∧ (freshBand 2 State.reset).works.resting PUMP = true
    ∧ State.reset.works.arbiter.permits ((State.reset.works.link.live.load[(6 : Fin 12)]).cls.getD 0) = true
    ∧ (State.reset.works.link.live.load[(6 : Fin 12)]).rated ≤ State.reset.works.arbiter.headroom
    ∧ pumping.works.driving PUMP = true ∧ pumping.works.water.pump = .running ∧ pumping.works.water.psw = true
    ∧ pumping.works.water.dryTimer = some 0 ∧ pumping.works.water.runTimer = some 0 ∧ pumping.lives = true
    ∧ pumpingOver.lives = true ∧ pumpingOver.works.driving PUMP = true ∧ pumpingOver.works.water.pump = .running
    ∧ pumpingOver.works.arbiter.waits = [] ∧ pumpingOver.works.water.adopted.runLimit * 1000 ≤ 300000 := by decide +kernel

/-- The same output LATCHED. -/
def latched (o : OutId) (s : State) : State := onWorks (fun w => w.modOut o fun x => { x with driven := .latched }) s

/-- STEP, out, is called in by the ignition (R158). -/
def calledIn : State := run [.axisSwitchChange .stepRetracted false, .ignChange true] State.reset

theorem witness_RefusedRequestsApplyNothing : calledIn.listens = true ∧ calledIn.works.motion.autoRetract .step = true
    ∧ awnOut.works.motion.autoRetract .awn = false ∧ (awnOut.works.motion.axis .awn).state = .unknown
    ∧ (after (.ignChange true) State.reset).works.vehicle.condition ≠ .parked
    ∧ (State.reset.works.motion.axis .awn).state ≠ .unknown ∧ State.reset.works.vehicle.condition = .parked
    ∧ (drainIs (.closing ⟨true, false, 0, 0⟩) .neither 20 State.reset).works.water.drain = .closing ⟨true, false, 0, 0⟩
    ∧ ((latched DRAIN State.reset).works.out DRAIN).driven = .latched ∧ (latched DRAIN State.reset).listens = true
    ∧ (drainIs .opened .opened 69 State.reset).works.water.waterCopy.usable = some 69
    ∧ ((latched HBRN (heater (.lockout .hbrnFault) State.reset)).works.out HBRN).driven = .latched
    ∧ 18 < (19 : Byte).toNat ∧ (9 : Byte).toNat ≤ 18 := by decide +kernel

/-- One state for each item of the Dormant entry test that fails alone. -/
theorem witness_RefusedRequestsApplyNothing_sleep : auxOn.listens = true ∧ auxOn.works.vehicle.condition = .parked
    ∧ auxOn.works.arbiter.grants.map (·.out) = [AUX] ∧ State.reset.works.arbiter.grants = []
    ∧ (onWorks (fun w => { w with motion := { w.motion with queue := [⟨.step, .extend, .host, 0⟩] } }) State.reset).listens = true
    ∧ (onWorks (fun w => { w with motion := { w.motion with stage := .driving heldRetract } }) State.reset).works.motion.stage.move?
        = some heldRetract
    ∧ (heater .awaitGrant State.reset).listens = true ∧ (heater .awaitGrant State.reset).works.climate.heater = .awaitGrant
    ∧ (onWorks (fun w => { w with water := { w.water with pump := .running } }) State.reset).listens = true
    ∧ (fading.works.light 0).fade.isSome
    ∧ (onWorks (fun w => w.modLight 0 fun l => { l with fade := some ⟨0, 50, 0, none, 0⟩ }) State.reset).listens = true := by
  decide +kernel

theorem witness_CurrentRefreshes : auxOn.lives = true ∧ auxOn.works.onDuty AUX ≠ 0 ∧ State.reset.works.onDuty AUX = 0
    ∧ (auxOn.works.out AUX).load.openThreshold = none ∧ (auxOn.works.out AUX).load.trip = 6500
    ∧ (auxOn.works.out AUX).overTimer = none := by decide +kernel

/-- L1 driven above its trip under REPORT, and below its open threshold. -/
def reported : State := onWorks (fun w => w.modOut 0 fun x => { x with
  overTimer := some 100, openTimer := some 5, load := { x.load with overcurrentMode := .report } }) lit500

theorem witness_OccurrencesFollowTheirMode_reported : reported.lives = true ∧ (reported.works.out 0).overTimer.isSome
    ∧ (reported.works.out 0).openTimer.isSome ∧ (reported.works.out 0).load.mode .overcurrent = .report
    ∧ (reported.works.out 0).load.mode .openLoad = .report ∧ (lit500.works.out 0).overTimer = none := by decide +kernel

theorem witness_OccurrencesFollowTheirMode : (after (.currentRefresh AUX 7000) auxOn).lives = true
    ∧ (after (.currentRefresh AUX 7000) auxOn).works.arbiter.waits = []
    ∧ (after (.currentRefresh AUX 7000) auxOn).works.driving AUX = true
    ∧ ((after (.currentRefresh AUX 7000) auxOn).works.out AUX).overTimer.isSome
    ∧ ((after (.currentRefresh AUX 7000) auxOn).works.out AUX).load.overcurrentMode = .retryFast
    ∧ auxOn.works.onDuty AUX ≠ 0 ∧ 2 * (auxOn.works.out AUX).load.trip < min 40000 14000
    ∧ (auxOn.works.out AUX).load.mode .short = .latch := by decide +kernel

/-- L1 with its open timer running under LATCH. -/
theorem witness_OccurrencesFollowTheirMode_open :
    let s := onWorks (fun w => w.modOut 0 fun x => { x with
      openTimer := some 1990, load := { x.load with openMode := some .latch } }) lit500
    s.lives = true ∧ s.works.arbiter.waits = [] ∧ s.works.driving 0 = true ∧ (s.works.out 0).openTimer.isSome
      ∧ (s.works.out 0).load.mode .openLoad = .latch := by decide +kernel

/-- AUX cut, its retry time over. -/
def auxCut : State := retryDue AUX (run [.currentRefresh AUX 7000, .overcurrentDwellExpiry AUX] auxOn)

/-- AUX driven again, its RETRYING record clean for 60 s. -/
def auxClean : State := onWorks (fun w => w.modFault AUX .overcurrent fun r => { r with clean := 60000 })
  (after (.retryExpiry AUX) auxCut)

theorem witness_RetriesAndCleans : auxCut.lives = true ∧ (auxCut.works.out AUX).driven = .cutWait (.timing 0)
    ∧ (auxCut.works.out AUX).heldRequest = some ⟨3, 5000, 5000, none⟩ ∧ (auxCut.works.out AUX).demand = some .on
    ∧ auxCut.works.arbiter.knows AUX = false ∧ auxCut.works.arbiter.waits = [] ∧ auxCut.works.arbiter.permits 3 = true
    ∧ 5000 ≤ auxCut.works.arbiter.headroom ∧ auxCut.works.stages.stage < 3
    ∧ ((retryDue 0 State.reset).works.out 0).driven = .cutWait (.timing 0)
    ∧ ((retryDue 0 State.reset).works.out 0).heldRequest = none
    ∧ (auxClean.works.fault AUX .overcurrent).state = .retrying ∧ (auxClean.works.out AUX).driven = .on
    ∧ 60000 ≤ (auxClean.works.fault AUX .overcurrent).clean ∧ auxClean.lives = true
    ∧ (State.reset.works.fault AUX .overcurrent).state ≠ .retrying := by decide +kernel

/-- A Fault Table record of AUX in a state of its own. -/
def auxFault (f : FaultState) (s : State) : State := onWorks (fun w => w.modFault AUX .overcurrent fun r => { r with state := f }) s

theorem witness_ClearFaultAnswers : (auxFault .active State.reset).listens = true
    ∧ ((auxFault .active State.reset).works.fault AUX .overcurrent).state = .active
    ∧ (auxCut.works.fault AUX .overcurrent).state = .retrying ∧ auxCut.listens = true
    ∧ ((auxFault .latched (latched AUX State.reset)).works.fault AUX .overcurrent).state = .latched
    ∧ ((latched AUX State.reset).works.out AUX).heldRequest = none ∧ (latched AUX State.reset).works.arbiter.knows AUX = false
    ∧ ((latched AUX State.reset).works.out AUX).grant = none ∧ (latched AUX State.reset).works.arbiter.waits = []
    ∧ (latched MOTOR State.reset).works.motion.queue = []
    ∧ ((onWorks (fun w => w.modFault 0 .short fun r => { r with state := .latched }) (onWorks (fun w =>
        w.modFault 0 .openLoad fun r => { r with state := .latched }) (latched 0 State.reset))).works.fault 0 .openLoad).state
        = .latched
    ∧ (State.reset.works.fault AUX .short).state = .clear := by decide +kernel

/-- The first pass start has come. -/
def passDue : State := { State.reset with scanner := { State.reset.scanner with untilPass := 0 } }

theorem witness_PassStartsAndSamples : passDue.lives = true ∧ passDue.scanner.untilPass = 0
    ∧ (∀ ch : Fin 9, passDue.scanner.adopted[ch].enabled = true → passDue.works.link.live.channel[ch].enabled = true)
    ∧ State.reset.scanner.untilPass ≠ 0 ∧ State.reset.scanner.awaited.getLsbD 0 = false := by decide +kernel

theorem witness_PassStartsAndSamples_samples : (inPass State.reset).lives = true
    ∧ ((inPass State.reset).scanner.adopted[(2 : Fin 9)]).enabled = true
    ∧ ((inPass State.reset).scanner.adopted[(6 : Fin 9)]).enabled = true
    ∧ (inPass State.reset).scanner.awaited.getLsbD 2 = true ∧ (inPass State.reset).scanner.awaited.getLsbD 6 = true
    ∧ State.reset.scanner.awaited.getLsbD 2 = false := by decide +kernel

theorem witness_ThermalStageFollowsDie :
    let s := inPass State.reset
    let warm := after (.channelSample (.tDie 1105)) s
    s.lives = true ∧ s.scanner.awaited.getLsbD 5 = true ∧ (s.scanner.adopted[(5 : Fin 9)]).enabled = true
      ∧ s.works.vehicle.condition ≠ .dormant ∧ s.works.stages.stage ≤ 3 ∧ s.works.stages.staged = false
      ∧ (inPass warm).works.stages.staged = true ∧ (inPass warm).works.stages.stage = 1
      ∧ (after (.channelSample (.tDie 1099)) (inPass warm)).works.stages.stage = 1 := by decide +kernel

/-- The tanks one reading short of an accepted band, the pump dry-stopped; and of a fall of grey full. -/
def tanksNear : State := onWorks (fun w => { w with water := { w.water with
  dryLatch := true
  fresh := { w.water.fresh with candidate := some 2, run := 5, accepted := some 0 }
  grey := { w.water.grey with candidate := some 0, run := 6, accepted := some 0 }
  greyFull := true
  below := 5 } }) (inPass State.reset)

/-- Two over flags in the window, a queued HOST EXTEND of AWN, MOTOR latched. -/
def windy (stage : MotorStage) (queue : List QueueEntry) (s : State) : State :=
  let t := onWorks (fun w => { w with motion := { w.motion with
    stage := stage, queue := queue, window := [false, false, false, true, false, true] } }) (inPass s)
  { t with scanner := { t.scanner with windSample := some 1000 } }

theorem witness_TanksAndWindFollowTheirSamples : tanksNear.lives = true ∧ tanksNear.scanner.awaited.getLsbD 6 = true
    ∧ tanksNear.scanner.awaited.getLsbD 7 = true ∧ (tanksNear.scanner.adopted[(6 : Fin 9)]).enabled = true
    ∧ (tanksNear.scanner.adopted[(7 : Fin 9)]).enabled = true ∧ (inPass State.reset).works.water.dryLatch = false
    ∧ (inPass State.reset).works.water.runTimer = none := by decide +kernel

theorem witness_TanksAndWindFollowTheirSamples_wind :
    let s := windy .idle [] awnOut
    let t := after (.channelSample .wind) s
    s.lives = true ∧ s.scanner.awaited.getLsbD 8 = true ∧ (s.scanner.adopted[(8 : Fin 9)]).enabled = true
      ∧ t.scanner.channels[(8 : Fin 9)].reading = .valid 1000 ∧ s.works.vehicle.condition = .parked
      ∧ s.works.motion.adopted.windLimit ≤ 1000 * s.works.motion.adopted.windScale * 100 / s.scanner.passLength
      ∧ s.works.motion.awn.state ≠ .retracted ∧ s.works.resting MOTOR = true ∧ s.works.arbiter.waits = []
      ∧ s.works.arbiter.permits 0 = true ∧ s.works.motion.last ≠ some (.awn, .retract)
      ∧ (windy .held [⟨.awn, .extend, .host, 0⟩] State.reset).works.motion.awn.state = .retracted
      ∧ (windy .held [⟨.awn, .extend, .host, 0⟩] State.reset).lives = true := by decide +kernel

theorem witness_TemperaturesMoveDemandAndFrost :
    let s := inPass (heater (.lockout .ignition) State.reset)
    let frosted (t : FrostTimer) : State := onWorks (fun w => { w with water := { w.water with frost := t, drain := .fault } }) s
    s.lives = true ∧ s.scanner.awaited.getLsbD 3 = true ∧ (s.scanner.adopted[(3 : Fin 9)]).enabled = true
      ∧ s.scanner.awaited.getLsbD 4 = true ∧ (s.scanner.adopted[(4 : Fin 9)]).enabled = true
      ∧ s.works.climate.heater = .lockout .ignition
      ∧ (frosted (.running 900000)).lives = true ∧ (frosted (.running 900000)).works.water.drain ≠ .closed
      ∧ s.works.link.live.water.frostTime * 1000 ≤ 900000 ∧ s.works.water.adopted.frostTime * 1000 ≤ 900000
      ∧ s.works.vehicle.condition ≠ .dormant := by decide +kernel

theorem witness_BankPairIntegrates :
    let s := bank200 360000000 .drifted (.valid (-40))
    s.lives = true ∧ s.scanner.awaited.getLsbD 0 = true ∧ s.account.confidence ≠ .unknown ∧ s.account.bank = s.works.link.live.bank
      ∧ s.account.heldCapacity = s.works.link.live.bank.capacity ∧ 12210 < s.works.link.live.bank.vFull
      ∧ (s.scanner.adopted[(0 : Fin 9)]).minimum ≤ 12210 ∧ 12210 ≤ (s.scanner.adopted[(0 : Fin 9)]).maximum
      ∧ (s.scanner.adopted[(1 : Fin 9)]).minimum ≤ -1234 ∧ (-1234 : Int) ≤ (s.scanner.adopted[(1 : Fin 9)]).maximum := by
  decide +kernel

theorem witness_BankPairRestClockAndStateOfCharge : (inPass State.reset).powered = true
    ∧ (inPass State.reset).scanner.awaited.getLsbD 0 = true ∧ State.reset.account.q ≤ State.reset.account.qFull
    ∧ State.reset.account.shedLevel = max State.reset.account.socLevel State.reset.account.voltageLevel
    ∧ State.reset.account.voltageLevel = 0 ∧ State.reset.account.heldCapacity = State.reset.account.bank.capacity
    ∧ State.reset.account.q = 0 := by decide +kernel

/-- A sound account that is not UNKNOWN, field by field. -/
theorem witness_BankPairLevels :
    let a := (bank200 360000000 .drifted (.valid (-40))).account
    (bank200 360000000 .drifted (.valid (-40))).scanner.awaited.getLsbD 0 = true
      ∧ a.shedLevel = max a.socLevel a.voltageLevel ∧ a.socLevel ≤ 4 ∧ a.voltageLevel = 0 ∧ a.heldCapacity = a.bank.capacity
      ∧ a.q ≤ a.qFull ∧ a.confidence ≠ .unknown := by decide +kernel

/-- Clocks that run, and a last BV of 12 310. -/
def clocks : State := onAccount (fun a => { a with restClock := some 3000, fullClock := some 4000, lastBv := .valid 12310 })
  (bank200 360000000 .drifted (.valid 150))

theorem witness_CalibrationsAndMarkFull : clocks.listens = true ∧ clocks.lives = true ∧ clocks.account.fullClock = some 4000
    ∧ clocks.account.restClock = some 3000 ∧ clocks.account.restTaken = false ∧ clocks.account.lastBv.usable = some 12310
    ∧ clocks.account.bank.chemistry = .lead ∧ State.reset.account.fullClock = none ∧ State.reset.account.restClock = none := by
  decide +kernel

/-- The same with a LITHIUM bank, whose table gives 460 for that BV, and 100 and 950 for two others. -/
theorem witness_CalibrationsAndMarkFull_lithium :
    let s := onAccount (fun a => { a with bank := { a.bank with chemistry := .lithium } }) clocks
    s.lives = true ∧ s.account.restClock = some 3000 ∧ s.account.restTaken = false ∧ s.account.lastBv.usable = some 12310
      ∧ s.account.bank.chemistry = .lithium ∧ s.account.bank.tableSoc 12310 = 460 ∧ s.account.bank.tableSoc 11950 = 100
      ∧ s.account.bank.tableSoc 12800 = 950 := by decide +kernel

/-- PARKED with the silence timer running, and the same with AUX granted. -/
def silent (s : State) : State := onWorks (fun w => { w with vehicle := { w.vehicle with silence := some 1800000 } }) s

theorem witness_DormantIsEntered : (silent State.reset).listens = true ∧ (silent State.reset).works.vehicle.silence = some 1800000
    ∧ State.reset.works.link.live.link.silence * 60000 ≤ 1800000
    ∧ State.reset.works.link.live.link.silence ≠ 0 ∧ State.reset.works.motion.condition = .parked
    ∧ State.reset.works.motion.depart = false ∧ State.reset.works.arbiter.grants = [] ∧ State.reset.works.motion.queue = []
    ∧ State.reset.works.motion.stage.move? = none ∧ State.reset.works.climate.heater = .off
    ∧ State.reset.works.water.pump ≠ .running ∧ (∀ ch : LightId, (State.reset.works.light ch).fade = none)
    ∧ (silent auxOn).works.vehicle.condition = .parked ∧ (silent auxOn).works.arbiter.grants.map (·.out) = [AUX] := by
  decide +kernel

/-- READY, both axes in. -/
def ready : State := after (.ignChange true) State.reset

theorem witness_ConditionFollowsItsInputs : State.reset.lives = true ∧ State.reset.works.vehicle.ign = false
    ∧ State.reset.works.vehicle.dplus = false ∧ State.reset.works.vehicle.condition = .parked
    ∧ State.reset.works.motion.awn.state = .retracted ∧ State.reset.works.motion.step.state = .retracted
    ∧ State.reset.works.motion.stage = .idle ∧ ready.lives = true ∧ ready.works.vehicle.ign = true
    ∧ ready.works.vehicle.condition = .ready ∧ ready.works.vehicle.dplus = false ∧ ready.works.motion.depart = false
    ∧ (ready.works.light 3).cover = none ∧ (ready.works.light 3).stance = .none ∧ (ready.works.light 3).fade = none := by
  decide +kernel

/-- DORMANT, every wake source at its edge. -/
def asleep : State := inPass (onWorks (fun w => { w with
  vehicle := { w.vehicle with condition := .dormant, silence := none }
  motion := { w.motion with condition := .dormant }
  water := { w.water with frost := .running 900000 }
  stages := { w.stages with staged := true } })
  (onAccount (fun a => { a with lowCount := 3, confidence := .estimated, q := 300000000 }) State.reset))

theorem witness_WakeFromDormant : asleep.lives = true ∧ asleep.works.vehicle.condition = .dormant
    ∧ asleep.works.vehicle.restarting = false ∧ asleep.works.vehicle.door = false ∧ asleep.works.water.psw = false
    ∧ asleep.works.water.adopted.frostTime * 1000 ≤ 900000 ∧ asleep.works.vehicle.ign = false
    ∧ asleep.works.vehicle.dplus = false
    ∧ (after (.bankPair 11500 (-100)) asleep).account.shedLevel ≠ asleep.account.shedLevel
    ∧ (after (.channelSample (.tDie 1100)) asleep).works.stages.stage ≠ asleep.works.stages.stage
    ∧ (after (.channelSample (.tDie 900)) asleep).works.stages.stage = asleep.works.stages.stage
    ∧ (onWorks (fun w => { w with vehicle := { w.vehicle with door := true } }) asleep).works.vehicle.door = true := by
  decide +kernel

/-- STEP out, and the engine running with L4 wanted at a duty. -/
def stepOut : State := after (.axisSwitchChange .stepRetracted false) State.reset

def driving (wanted : Nat) : State := onWorks (fun w => w.modLight 3 fun l => { l with wanted := wanted })
  (run [.ignChange true, .dplusChange true] State.reset)

theorem witness_IgnitionRetractAndLeavingDriving : stepOut.lives = true ∧ stepOut.works.vehicle.condition = .parked
    ∧ stepOut.works.vehicle.ign = false ∧ stepOut.works.vehicle.dplus = false ∧ stepOut.works.motion.step.state ≠ .retracted
    ∧ stepOut.works.motion.depart = false ∧ stepOut.works.motion.stage = .idle ∧ stepOut.works.motion.queue = []
    ∧ stepOut.works.resting MOTOR = true ∧ stepOut.works.arbiter.waits = [] ∧ stepOut.works.arbiter.permits 0 = true
    ∧ stepOut.works.motion.last ≠ some (.step, .retract)
    ∧ (onWorks (fun w => { w with motion := { w.motion with stage := .held, queue := [⟨.awn, .extend, .host, 0⟩] } })
        State.reset).lives = true := by decide +kernel

theorem witness_IgnitionRetractAndLeavingDriving_leaving : (driving 0).lives = true
    ∧ (driving 0).works.vehicle.condition = .driving ∧ (driving 0).works.vehicle.dplus = true
    ∧ (driving 0).works.vehicle.ign = true ∧ (driving 0).works.motion.depart = false
    ∧ (driving 500).works.light 3 = { (State.reset.works.light 3) with wanted := 500 }
    ∧ (driving 500).works.resting 3 = true ∧ (driving 500).works.arbiter.waits = []
    ∧ (driving 500).works.arbiter.permits 2 = true ∧ 750 ≤ (driving 500).works.arbiter.headroom
    ∧ (driving 500).works.motion.awn.state = .retracted ∧ (driving 500).works.motion.step.state = .retracted := by
  decide +kernel

/-- L5 lit in full at 1000 by the host before the door opens, its wanted duty then 0 by its courtesy fade. -/
def doorLight : State := onWorks (fun w => { w with
  motion := { w.motion with adopted := { w.motion.adopted with autoStep := false } }
  lights := { w.lights with channels := w.lights.channels.set 4 { w.lights.channels[(4 : Fin 6)] with wanted := 100 } } })
  (run [.setLight 4 1000 0, .periodBoundary, .fadeEnd 4] State.reset)

theorem witness_DoorAndCourtesyLight_door : doorLight.lives = true ∧ doorLight.works.vehicle.door = false
    ∧ doorLight.works.vehicle.condition = .parked ∧ doorLight.works.motion.adopted.autoStep = false
    ∧ (doorLight.works.light 4).wanted < doorLight.works.link.live.scenes.courtesyDuty
    ∧ (doorLight.works.light 4).cover = some ⟨1500, 1000⟩ ∧ doorLight.works.link.live.scenes.courtesyDuty ≤ 1000
    ∧ (doorLight.works.light 4).lowering = none ∧ (doorLight.works.light 4).stance = .full
    ∧ (after (.doorChange true) State.reset).works.vehicle.door = true
    ∧ ready.works.vehicle.door = false := by decide +kernel

theorem witness_PermittedClasses : winterEvening.shedLevel ≤ 4 ∧ winterEvening.stage ≤ 3 := by decide +kernel

/-- An arbiter with grants and nobody waiting: its load of 15 900 is within its ceiling of 25 000. -/
theorem witness_ArbiterOperationsKeepTheCeiling : winterEvening.load = 15900 ∧ winterEvening.ceiling = 25000
    ∧ (winterEvening.grants.map (·.out)).Nodup ∧ winterEvening.waits = []
    ∧ winterEvening.knows HBRN = false ∧ winterEvening.knows DRAIN = false := by decide +kernel

/-- Section 3.15.1, t = 0: the cut of shed level 3 takes both kinds of grant back, in the order of its steps. -/
theorem witness_TakingsCutAndPostGrant : (winterEvening.grants.map (·.out)).Nodup
    ∧ (({ winterEvening with shedLevel := 3 } : Arbiter).cut 0).revoked = [1, AUX, 0, PUMP]
    ∧ (({ winterEvening with shedLevel := 3 } : Arbiter).cut 0).reduced = [5, HFAN]
    ∧ (inPass auxOn).lives = true ∧ (inPass auxOn).works.vehicle.condition ≠ .dormant
    ∧ (inPass auxOn).scanner.awaited.getLsbD 0 = true ∧ (inPass auxOn).scanner.awaited.getLsbD 5 = true
    ∧ auxOn.scanner.adopted[(5 : Fin 9)].enabled = true := by decide +kernel

/-- Section 3.15.3: level 2 with a headroom of 1000, L2 holding 1500 and L3 waiting; its L4 asks for 1500 with a floor of 300. -/
def levelTwo : Arbiter := { State.reset.works.arbiter with
  shedLevel := 2
  arrivals := 3
  grants := [grant PUMP 1 12500 none 12500 none 1, grant 1 2 1500 (some 1000) 300 (some ⟨1500, 1000, 200⟩) 2]
  waits := [⟨2, none, 2, 1500, 300, some ⟨1500, 1000, 200⟩, .new, 3, 0⟩] }

theorem witness_RequestsAndServicesInOrder : levelTwo.headroom = 1000 ∧ levelTwo.permits 2 = true ∧ levelTwo.permits 3 = false
    ∧ levelTwo.grantOf 3 = none ∧ (levelTwo.grantOf 1).isSome ∧ (levelTwo.waitOf 2).isSome
    ∧ (levelTwo.release 1 10000).1.grants.map (·.out) = [PUMP, 2]
    ∧ (levelTwo.request ⟨3, 2, 1500, 300, some ⟨1500, 1000, 200⟩, none⟩ 10000).2.1 = [(3, .partGranted 999 (some 666))]
    ∧ (levelTwo.request ⟨1, 2, 900, 300, some ⟨1500, 600, 200⟩, none⟩ 10000).2.2 = .granted
    ∧ (levelTwo.request ⟨1, 3, 900, 300, some ⟨1500, 600, 200⟩, none⟩ 10000).2.2 = .waiting
    ∧ (levelTwo.serve 10000).2 = [(2, .partGranted 999 (some 666))]
    ∧ ({ levelTwo with waits := [⟨AUX, none, 1, 5000, 5000, none, .new, 3, 0⟩] } : Arbiter).serve 70000
        = ({ levelTwo with waits := [⟨AUX, none, 1, 5000, 5000, none, .new, 3, 0⟩] }, []) := by decide +kernel

/-- What the invariants of every step ask holds, field by field, of a state with AUX driven, and its step is a next one. -/
theorem witness_StepKeeps : auxOn.works.inbox = [] ∧ auxOn.works.arbiter.load = 5000 ∧ auxOn.works.arbiter.ceiling = 40000
    ∧ auxOn.works.arbiter.waits = [] ∧ (auxOn.works.arbiter.grants.map (·.out)).Nodup
    ∧ (∀ o : OutId, auxOn.works.stages.outs[o].driven = .on → auxOn.works.stages.outs[o].grant.isSome
        ∧ auxOn.works.stages.outs[o].demand.isSome ∧ auxOn.works.stages.stage < 3)
    ∧ auxOn.works.water.heaterCopy = auxOn.works.climate.heater.phase ∧ auxOn.works.motion.depart = false
    ∧ auxOn.works.motion.condition = .parked ∧ (auxOn.works.motion.queue.map (·.axis)).Nodup
    ∧ auxOn.works.motion.window.length = 6 ∧ auxOn.account.q = 0 ∧ auxOn.account.shedLevel = 0 := by decide +kernel

end Sys2Proof.Tests
end

section
/-! The Energy Account over one bank pair, stage by stage (R16): what each stage leaves unchanged, what it does to the rest
clock (R24), and that it keeps the held charge within the capacity (R20, R28). -/

namespace Sys2Proof.Machine

/-! ## The bounds of a state of charge (R18, R28) -/

/-- The search comes to segment `i` only with the voltage below the point above it, so that no order of the points is
needed. -/
theorem tableSegment_le (b : BankSetup) (v : Nat) : ∀ i, v < b.point i → tableSegment b v i ≤ 100 * i
  | 0, _ => Nat.le_refl 0
  | i + 1, below => by
    rw [tableSegment]
    split
    case isTrue found =>
      have within : 100 * (v - b.point i) / (b.point (i + 1) - b.point i) ≤ 100 :=
        Nat.div_le_of_le_mul (by omega)
      omega
    case isFalse missed =>
      have further := tableSegment_le b v i (Nat.lt_of_not_le missed)
      omega

theorem BankSetup.tableSoc_le (b : BankSetup) (v : Int) : b.tableSoc v ≤ 1000 := by
  unfold BankSetup.tableSoc
  split
  · omega
  · split
    · exact Nat.le_refl 1000
    · exact tableSegment_le b v.toNat 10 (by omega)

theorem socOf_le {q qFull : Nat} (h : q ≤ qFull) : socOf q qFull ≤ 1000 :=
  Nat.div_le_of_le_mul (by omega)

@[simp] theorem socOf_zero (qFull : Nat) : socOf 0 qFull = 0 := by simp [socOf]

/-- A share of at most 1000 per mille. -/
theorem share_le {soc : Nat} (h : soc ≤ 1000) (full : Nat) : full * soc / 1000 ≤ full :=
  Nat.div_le_of_le_mul (Nat.mul_comm full soc ▸ Nat.mul_le_mul_right full h)

/-! ## What a stage keeps -/

/-- Q within Qfull, and 0 while UNKNOWN (section 2.1): the part of `Account.sound` that speaks of the charge. -/
def Account.chargeSound (a : Account) : Prop := a.q ≤ a.qFull ∧ (a.confidence = .unknown → a.q = 0)

theorem Account.chargeSound_of_known {a : Account} (within : a.q ≤ a.qFull) (known : a.confidence ≠ .unknown) :
    a.chargeSound := ⟨within, fun unknown => absurd unknown known⟩

/-- A stage that makes `b` of `a` leaves the adopted setup and the rest clock alone and keeps the charge sound. -/
structure Account.Keeps (a b : Account) : Prop where
  bank : b.bank = a.bank
  restClock : b.restClock = a.restClock
  charge : a.chargeSound → b.chargeSound

theorem Account.Keeps.refl (a : Account) : a.Keeps a := ⟨rfl, rfl, id⟩

theorem Account.Keeps.trans {a b c : Account} (h : a.Keeps b) (k : b.Keeps c) : a.Keeps c :=
  ⟨k.bank.trans h.bank, k.restClock.trans h.restClock, k.charge ∘ h.charge⟩

/-- A stage that ends with confidence known has the bound alone to show. -/
theorem Account.Keeps.of_known {a b : Account} (bank : b.bank = a.bank) (restClock : b.restClock = a.restClock)
    (within : a.q ≤ a.qFull → b.q ≤ b.qFull) (known : b.confidence ≠ .unknown) : a.Keeps b :=
  ⟨bank, restClock, fun sound => Account.chargeSound_of_known (within sound.1) known⟩

/-- R18: a conversion sets Q within Qfull. Q is named here, so that a proof about a converted account does not have the kernel
compute the quotient. -/
theorem Account.setFromTable_eq (a : Account) (v : Int) (kind : TableKind) :
    ∃ q table, q ≤ a.qFull ∧ a.setFromTable v kind = { a with q := q, lastTable := table, throughput := 0 } :=
  ⟨_, _, share_le (a.bank.tableSoc_le v) a.qFull, rfl⟩

theorem PairRun.setConfidence_account (r : PairRun) (c : Confidence) :
    (r.setConfidence c).account = { r.account with confidence := c } := rfl

/-! ## Stages 1 to 4: adoption, estimate, integration, throughput -/

theorem Account.adoptCapacity_restClock (a : Account) (capacity : Nat) :
    (a.adoptCapacity capacity).restClock = a.restClock := by
  unfold Account.adoptCapacity
  split <;> rfl

/-- R35: Q is rescaled within the new Qfull, and a Q of 0 stays 0. -/
theorem Account.adoptCapacity_charge {a : Account} (h : a.sound) (capacity : Nat) :
    (a.adoptCapacity capacity).q ≤ qFullOf capacity
      ∧ ((a.adoptCapacity capacity).confidence = .unknown → (a.adoptCapacity capacity).q = 0) := by
  obtain ⟨_, _, _, held, within, empty⟩ := h
  have heldWithin : a.q ≤ qFullOf a.heldCapacity := held ▸ within
  unfold Account.adoptCapacity
  split
  case isTrue same => exact ⟨same ▸ heldWithin, empty⟩
  case isFalse =>
    refine ⟨share_le (socOf_le heldWithin) _, fun unknown => ?_⟩
    show qFullOf capacity * socOf a.q (qFullOf a.heldCapacity) / 1000 = 0
    simp [empty unknown]

/-- Stage 1 (R35). -/
theorem Account.adopt_restClock (a : Account) (bank : BankSetup) (shed : ShedSetup) :
    (a.adopt bank shed).1.account.restClock = a.restClock := a.adoptCapacity_restClock bank.capacity

theorem Account.adopt_chargeSound {a : Account} (h : a.sound) (bank : BankSetup) (shed : ShedSetup) :
    (a.adopt bank shed).1.account.chargeSound := Account.adoptCapacity_charge h bank.capacity

/-- Stage 2 (R19, R35). -/
theorem PairRun.estimate_keeps (r : PairRun) (p : BankPair) (chem : Bool) :
    r.account.Keeps (r.estimate p chem).account := by
  unfold PairRun.estimate
  split
  case h_1 v _ _ =>
    obtain ⟨q, table, within, e⟩ := r.account.setFromTable_eq v .estimate
    rw [e]
    exact .of_known rfl rfl (fun _ => within) nofun
  case h_2 => exact .refl _
  case h_3 v _ _ =>
    obtain ⟨q, table, within, e⟩ := r.account.setFromTable_eq v .estimate
    rw [e]
    exact .of_known rfl rfl (fun _ => within) nofun
  case h_4 => exact .of_known rfl rfl id nofun
  case h_5 => exact .refl _

/-- R20: a Q clamped to 0 to Qfull. -/
theorem Account.Keeps.of_clamped {a : Account} (known : a.confidence ≠ .unknown) (x increment : Int) (mark : Bool) :
    a.Keeps { a with saturated := mark, q := (clampInt 0 a.qFull x).toNat, lastIncrement := increment } := by
  have within : (clampInt 0 a.qFull x).toNat ≤ a.qFull := by
    unfold clampInt
    omega
  generalize (clampInt 0 a.qFull x).toNat = q at within
  exact .of_known rfl rfl (fun _ => within) known

/-- Stage 3 (R20 to R22). -/
theorem PairRun.integrate_keeps (r : PairRun) (p : BankPair) : r.account.Keeps (r.integrate p).account := by
  unfold PairRun.integrate
  dsimp only
  split
  case h_1 => exact ⟨rfl, rfl, id⟩
  case h_2 => exact .of_known rfl rfl id nofun
  case h_3 => exact ⟨rfl, rfl, id⟩
  case h_4 known =>
    split
    · exact ⟨rfl, rfl, id⟩
    · exact .of_clamped known _ _ _

/-- Stage 4 (R23). -/
theorem PairRun.count_keeps (r : PairRun) : r.account.Keeps r.count.account := by
  unfold PairRun.count
  dsimp only
  split
  case h_1 =>
    split
    · split
      · exact .of_known rfl rfl id nofun
      · exact ⟨rfl, rfl, id⟩
    · exact .refl _
  case h_2 => exact .refl _

/-! ## Stage 5: the rest clock and the attempt (R24, R25) -/

/-- Stage 5 moves the rest clock and the mark of the attempt, and nothing else before the attempt. -/
theorem Account.moveRest_eq (a : Account) (p : BankPair) :
    ∃ clock taken, a.moveRest p = { a with restClock := clock, restTaken := taken } := by
  unfold Account.moveRest
  repeat' split
  all_goals exact ⟨_, _, rfl⟩

section
variable {p : BankPair} {x : Int} (usable : p.bi.usable = some x)
include usable

/-- R24: a running rest period goes on. -/
theorem Account.moveRest_of_running (quiet : x.natAbs ≤ 20) {a : Account} {clock : Nat} (runs : a.restClock = some clock) :
    a.moveRest p = { a with restClock := some (clock + p.passLength) } := by
  simp only [Account.moveRest, usable, if_pos quiet, runs]

/-- R24: a rest period starts, its attempt not taken. -/
theorem Account.moveRest_of_starting (quiet : x.natAbs ≤ 20) {a : Account} (absent : a.restClock = none) :
    a.moveRest p = { a with restClock := some 0, restTaken := false } := by
  simp only [Account.moveRest, usable, if_pos quiet, absent]

end

/-- R24: without a usable BI of magnitude 20 or less, no rest period runs. -/
theorem Account.moveRest_of_current {p : BankPair} (current : ∀ x, p.bi.usable = some x → 20 < x.natAbs) (a : Account) :
    (a.moveRest p).restClock = none := by
  unfold Account.moveRest
  split
  case h_1 x usable => rw [if_neg (Nat.not_le.mpr (current x usable))]
  case h_2 => rfl

/-- How the rest clock moves depends on the clock before and on the pair alone. -/
theorem Account.moveRest_restClock_congr {a b : Account} (same : a.restClock = b.restClock) (p : BankPair) :
    (a.moveRest p).restClock = (b.moveRest p).restClock := by
  unfold Account.moveRest
  rw [same]
  split
  · split
    · split <;> rfl
    · rfl
  · rfl

theorem PairRun.attempt_keeps (r : PairRun) (v : Int) : r.account.Keeps (r.attempt v).account := by
  obtain ⟨q, table, within, e⟩ := r.account.setFromTable_eq v .rest
  unfold PairRun.attempt
  dsimp only
  rw [e]
  split
  · exact .of_known rfl rfl (fun _ => within) nofun
  · exact ⟨rfl, rfl, id⟩

/-- Stage 5 is the move of the rest clock, and after it the attempt or nothing. -/
theorem PairRun.rest_keeps (r : PairRun) (p : BankPair) : (r.account.moveRest p).Keeps (r.rest p).account := by
  unfold PairRun.rest
  dsimp only
  split
  · exact PairRun.attempt_keeps { r with account := r.account.moveRest p } _
  · exact .refl _

/-- R25: no attempt is made while it is not due. -/
theorem PairRun.rest_account_of_not_due {r : PairRun} {p : BankPair} (early : (r.account.moveRest p).restDue = false) :
    (r.rest p).account = r.account.moveRest p := by
  simp only [PairRun.rest, early]

/-! ## Stage 6: the full clock and the detection (R26) -/

theorem Account.moveFull_eq (a : Account) (p : BankPair) : ∃ clock, a.moveFull p = { a with fullClock := clock } := by
  unfold Account.moveFull
  repeat' split
  all_goals exact ⟨_, rfl⟩

theorem PairRun.detect_keeps (r : PairRun) : r.account.Keeps r.detect.account := by
  unfold PairRun.detect
  generalize full : r.account.qFull = q
  exact .of_known rfl rfl (fun _ => full.ge) nofun

/-- Stage 6 is the move of the full clock, and after it the detection or nothing. -/
theorem PairRun.full_eq (r : PairRun) (p : BankPair) :
    let moved := { r with account := r.account.moveFull p }
    r.full p = moved ∨ r.full p = moved.detect := by
  unfold PairRun.full
  dsimp only
  split
  · split
    · exact .inr rfl
    · exact .inl rfl
  · exact .inl rfl

theorem Account.moveFull_keeps (a : Account) (p : BankPair) : a.Keeps (a.moveFull p) := by
  obtain ⟨clock, e⟩ := a.moveFull_eq p
  rw [e]
  exact ⟨rfl, rfl, id⟩

theorem PairRun.full_keeps (r : PairRun) (p : BankPair) : r.account.Keeps (r.full p).account := by
  have moved := r.account.moveFull_keeps p
  rcases r.full_eq p with e | e
  · rw [e]
    exact moved
  · rw [e]
    exact moved.trans (PairRun.detect_keeps { r with account := r.account.moveFull p })

theorem PairRun.full_restTaken (r : PairRun) (p : BankPair) : (r.full p).account.restTaken = r.account.restTaken := by
  obtain ⟨clock, moved⟩ := r.account.moveFull_eq p
  rcases r.full_eq p with e | e <;> simp only [e, moved, PairRun.detect, PairRun.setConfidence_account]

/-! ## Stages 7 to 10: S, S_eff and the levels -/

theorem Account.moveSocLevel_eq (a : Account) : ∃ level, a.moveSocLevel = { a with socLevel := level } := by
  unfold Account.moveSocLevel
  split <;> exact ⟨_, rfl⟩

theorem Account.releaseVoltage_eq (a : Account) (v : Int) :
    ∃ level count, a.releaseVoltage v = { a with voltageLevel := level, releaseCount := count } := by
  unfold Account.releaseVoltage
  dsimp only
  repeat' split
  all_goals exact ⟨_, _, rfl⟩

theorem Account.moveVoltageLevel_eq (a : Account) (bv : Reading) :
    ∃ level low cut count, a.moveVoltageLevel bv
      = { a with voltageLevel := level, lowCount := low, cutCount := cut, releaseCount := count } := by
  unfold Account.moveVoltageLevel
  cases bv.usable with
  | none => exact ⟨_, _, _, _, rfl⟩
  | some v =>
    dsimp only
    generalize (if v < a.shedSetup.vLow then min 4 (a.lowCount + 1) else 0) = low
    generalize (if v < a.shedSetup.vCut then min 4 (a.cutCount + 1) else 0) = cut
    split
    · exact ⟨_, _, _, _, rfl⟩
    · split
      · exact ⟨_, _, _, _, rfl⟩
      · obtain ⟨level, count, e⟩ := { a with lowCount := low, cutCount := cut }.releaseVoltage_eq v
        exact ⟨level, low, cut, count, e⟩

/-- Stage 7 (R28, R29): S of the account, and the words beside it. -/
theorem Account.settleSoc_eq (a : Account) :
    ∃ penalty margin effective, a.settleSoc = { a with
      s := if a.confidence = .unknown then 0 else socOf a.q a.qFull
      coldPenalty := penalty
      margin := margin
      sEff := effective } := by
  unfold Account.settleSoc
  dsimp only
  split
  case h_1 unknown => exact ⟨_, _, _, by rw [if_pos unknown]⟩
  case h_2 known => exact ⟨_, _, _, by rw [if_neg known]⟩

/-! ## The whole pair (R16) -/

/-- Stages 1 to 4. -/
def Account.integrated (a : Account) (bank : BankSetup) (shed : ShedSetup) (p : BankPair) : PairRun :=
  (((a.adopt bank shed).1.estimate p (a.adopt bank shed).2).integrate p).count

/-- Stages 1 to 6. -/
def Account.detected (a : Account) (bank : BankSetup) (shed : ShedSetup) (p : BankPair) : PairRun :=
  ((a.integrated bank shed p).rest p).full p

/-- After stage 6 come S, the levels with their counts, and the last Readings. -/
theorem Account.takePair_account (a : Account) (bank : BankSetup) (shed : ShedSetup) (p : BankPair) :
    ∃ penalty margin effective soc voltage low cut release level,
      let b := (a.detected bank shed p).account
      (a.takePair bank shed p).account = { b with
        s := if b.confidence = .unknown then 0 else socOf b.q b.qFull
        coldPenalty := penalty
        margin := margin
        sEff := effective
        socLevel := soc
        voltageLevel := voltage
        lowCount := low
        cutCount := cut
        releaseCount := release
        shedLevel := level
        lastBv := p.bv
        lastBi := p.bi } := by
  obtain ⟨penalty, margin, effective, settled⟩ := (a.detected bank shed p).account.settleSoc_eq
  obtain ⟨soc, moved⟩ := (a.detected bank shed p).account.settleSoc.moveSocLevel_eq
  obtain ⟨voltage, low, cut, release, last⟩ :=
    (a.detected bank shed p).account.settleSoc.moveSocLevel.moveVoltageLevel_eq p.bv
  refine ⟨penalty, margin, effective, soc, voltage, low, cut, release, max soc voltage, ?_⟩
  have stages : (a.takePair bank shed p).account
      = { (((a.detected bank shed p).account.settleSoc.moveSocLevel).moveVoltageLevel p.bv).setShed with
          lastBv := p.bv, lastBi := p.bi } := rfl
  rw [stages, last, moved, settled]
  rfl

theorem Account.integrated_keeps (a : Account) (bank : BankSetup) (shed : ShedSetup) (p : BankPair) :
    (a.adopt bank shed).1.account.Keeps (a.integrated bank shed p).account :=
  ((PairRun.estimate_keeps _ p _).trans (PairRun.integrate_keeps _ p)).trans (PairRun.count_keeps _)

theorem Account.detected_keeps (a : Account) (bank : BankSetup) (shed : ShedSetup) (p : BankPair) :
    ((a.integrated bank shed p).account.moveRest p).Keeps (a.detected bank shed p).account :=
  (PairRun.rest_keeps _ p).trans (PairRun.full_keeps _ p)

theorem Account.takePair_keeps (a : Account) (bank : BankSetup) (shed : ShedSetup) (p : BankPair) :
    (a.detected bank shed p).account.Keeps (a.takePair bank shed p).account := by
  obtain ⟨_, _, _, _, _, _, _, _, _, e⟩ := a.takePair_account bank shed p
  rw [e]
  exact ⟨rfl, rfl, id⟩

/-- R24: a pair moves the rest clock as stage 5 by itself does. -/
theorem Account.takePair_restClock (a : Account) (bank : BankSetup) (shed : ShedSetup) (p : BankPair) :
    (a.takePair bank shed p).account.restClock = (a.moveRest p).restClock := by
  have before : (a.integrated bank shed p).account.restClock = a.restClock :=
    (a.integrated_keeps bank shed p).restClock.trans (a.adopt_restClock bank shed)
  have after := ((a.detected_keeps bank shed p).trans (a.takePair_keeps bank shed p)).restClock
  exact after.trans (Account.moveRest_restClock_congr before p)

/-- R24, R25: the pair that starts a rest period leaves its attempt not taken, a rest time of 0 apart. -/
theorem Account.takePair_restTaken_of_starting {a : Account} {bank : BankSetup} {p : BankPair} {x : Int}
    (usable : p.bi.usable = some x) (quiet : x.natAbs ≤ 20) (absent : a.restClock = none) (minutes : bank.restMinutes ≠ 0)
    (shed : ShedSetup) : (a.takePair bank shed p).account.restTaken = false := by
  have adopted : (a.integrated bank shed p).account.bank = bank := (a.integrated_keeps bank shed p).bank
  have before : (a.integrated bank shed p).account.restClock = none :=
    ((a.integrated_keeps bank shed p).restClock.trans (a.adopt_restClock bank shed)).trans absent
  have started := Account.moveRest_of_starting usable quiet before
  have early : ((a.integrated bank shed p).account.moveRest p).restDue = false := by
    simp only [started, Account.restDue, adopted]
    simpa using minutes
  have kept : (a.detected bank shed p).account.restTaken = false := by
    rw [Account.detected, PairRun.full_restTaken, PairRun.rest_account_of_not_due early, started]
  obtain ⟨_, _, _, _, _, _, _, _, _, e⟩ := a.takePair_account bank shed p
  rw [e]
  exact kept

theorem Account.moveRest_chargeSound {a : Account} (h : a.chargeSound) (p : BankPair) : (a.moveRest p).chargeSound := by
  obtain ⟨clock, taken, e⟩ := a.moveRest_eq p
  rw [e]
  exact h

/-- R20, R28: a pair keeps Q within Qfull, and Q is 0 while UNKNOWN. -/
theorem Account.takePair_chargeSound {a : Account} (h : a.sound) (bank : BankSetup) (shed : ShedSetup) (p : BankPair) :
    (a.takePair bank shed p).account.chargeSound := by
  have before := (a.integrated_keeps bank shed p).charge (Account.adopt_chargeSound h bank shed)
  exact ((a.detected_keeps bank shed p).trans (a.takePair_keeps bank shed p)).charge
    (Account.moveRest_chargeSound before p)

/-- R28: S after a pair, whatever the account before it. -/
theorem Account.takePair_s (a : Account) (bank : BankSetup) (shed : ShedSetup) (p : BankPair) :
    let t := (a.takePair bank shed p).account
    t.s = if t.confidence = .unknown then 0 else socOf t.q t.qFull := by
  obtain ⟨_, _, _, _, _, _, _, _, _, e⟩ := a.takePair_account bank shed p
  rw [e]
  rfl

/-! ## The command -/

@[simp] theorem Scanner.sample_passLength (s : Scanner) (ch : Fin 9) (raw : RawSample) (compared : Int) :
    (s.sample ch raw compared).passLength = s.passLength := by
  cases raw <;> rfl

@[simp] theorem Scanner.samplePair_passLength (s : Scanner) (bv bi : Int) :
    (s.samplePair bv bi).passLength = s.passLength := by
  simp [Scanner.samplePair]

/-- R9: the pair that the sampling of BV and BI publishes. -/
def Scanner.pairOf (s : Scanner) (bv bi : Int) : BankPair where
  bv := (s.samplePair bv bi).channels[(0 : Fin 9)].reading
  bi := (s.samplePair bv bi).channels[(1 : Fin 9)].reading
  passLength := s.passLength

@[simp] theorem State.takenPair_scanner (s : State) (bv bi : Int) :
    (s.takenPair bv bi).scanner = s.scanner.samplePair bv bi := rfl

theorem State.takenPair_account (s : State) (bv bi : Int) : (s.takenPair bv bi).account
    = (s.account.takePair s.works.link.live.bank s.works.link.live.shed (s.scanner.pairOf bv bi)).account := by
  simp only [State.takenPair, Scanner.pairOf, Scanner.samplePair_passLength]

theorem exec_bankPair (bv bi : Int) (s : State) : exec (.bankPair bv bi) s
    = s.takes fun s => (s.pins fun p => { p with bv := bv, bi := bi }).bankPair bv bi := rfl

/-- A pair of the pass in hand is sampled, published and taken. -/
theorem exec_bankPair_of_awaited {s : State} (powered : s.powered = true) (awaited : s.scanner.awaited.getLsbD 0 = true)
    (bv bi : Int) :
    exec (.bankPair bv bi) s = .next ((s.pins fun p => { p with bv := bv, bi := bi }).takenPair bv bi) := by
  have awaits : (s.pins fun p => { p with bv := bv, bi := bi }).scanner.awaits 0 = true := awaited
  rw [exec_bankPair, State.takes_of_powered powered, State.bankPair, if_pos awaits]

/-- Settles O45: the account of the pair's effect is `Account.takePair`'s, whose rest clock is stage 5's and whose S is
stage 7's of a charge that every stage keeps sound. -/
theorem bankPairRestClockAndStateOfCharge : Obligations.BankPairRestClockAndStateOfCharge := by
  intro bv bi s powered awaited
  refine ⟨_, exec_bankPair_of_awaited powered awaited bv bi, ?_⟩
  rw [State.takenPair_account, State.takenPair_scanner]
  simp only [State.pins_account, State.pins_works, State.pins_scanner]
  set bank := s.works.link.live.bank
  set shed := s.works.link.live.shed
  set p := s.scanner.pairOf bv bi
  have clock := s.account.takePair_restClock bank shed p
  refine ⟨⟨?_, ?_⟩, ?_⟩
  · rintro ⟨x, usable, quiet⟩
    refine ⟨?_, fun absent minutes => Account.takePair_restTaken_of_starting usable quiet absent minutes shed⟩
    rw [clock]
    cases before : s.account.restClock with
    | none => rw [Account.moveRest_of_starting usable quiet before]
    | some ran => rw [Account.moveRest_of_running usable quiet before]; rfl
  · intro current
    rw [clock]
    exact Account.moveRest_of_current current s.account
  · intro sound
    obtain ⟨within, empty⟩ := Account.takePair_chargeSound sound bank shed p
    have soc := s.account.takePair_s bank shed p
    dsimp only at soc
    refine ⟨fun known => ?_, fun unknown => ⟨empty unknown, ?_⟩, within, ?_⟩
    · rw [soc, if_neg known, socOf]
    · rw [soc, if_pos unknown]
    · rw [soc]
      split
      · exact Nat.zero_le 1000
      · exact socOf_le within

end Sys2Proof.Machine
end

section
/-! The permitted classes (R40): each of its two tables, written in the model as a bound on the class, is the table's list of
classes. -/

namespace Sys2Proof.Machine

/-- R40, first table: the bound on the class at each shed level picks out that level's row. -/
theorem allowedByShed_iff_mem {level : Nat} (within : level ≤ 4) (cls : Nat) : allowedByShed level cls = true ↔
    cls ∈ [[0, 1, 2, 3], [0, 1, 2, 3], [0, 1, 2], [0, 1], [0]].getD level [] := by
  interval_cases level <;> simp [allowedByShed] <;> omega

/-- R40, second table: the bound on the class at each thermal stage picks out that stage's row. -/
theorem allowedByStage_iff_mem {stage : Nat} (within : stage ≤ 3) (cls : Nat) : allowedByStage stage cls = true ↔
    cls ∈ [[0, 1, 2, 3], [0, 1, 2, 3], [0], []].getD stage [] := by
  interval_cases stage <;> simp [allowedByStage] <;> omega

/-- R40: a class is permitted exactly where the shed level and the thermal stage both allow it. -/
theorem Arbiter.permits_iff (a : Arbiter) (cls : Nat) :
    a.permits cls = true ↔ allowedByShed a.shedLevel cls = true ∧ allowedByStage a.stage cls = true := by
  rw [Arbiter.permits, Bool.and_eq_true]

/-- Settles O53: a class is permitted where both tables allow it, and each table allows the classes of its row. -/
theorem permittedClasses : Obligations.PermittedClasses := by
  intro a cls level stage
  rw [Arbiter.permits_iff, allowedByShed_iff_mem level, allowedByStage_iff_mem stage]

end Sys2Proof.Machine
end

section
/-! Where the link moves. The unit address is taken at reset completion (R185), and nothing that a block does, nor the delivery
of any notice, sets it again: what drives outputs, asks the arbiter or moves a light, the pump or the heater leaves the link
as it is, and what posts moves the Cause Set and the attention line's state alone. -/

namespace Sys2Proof.Machine

/-! ## The output stages and the arbiter leave the link as it is -/

@[simp] theorem Works.fixOn_link (w : Works) (o : OutId) : (w.fixOn o).link = w.link := by
  unfold Works.fixOn
  split
  · split <;> simp
  · rfl

@[simp] theorem Works.modFaults_link (w : Works) (o : OutId) (f : FaultRecord → FaultRecord) :
    (w.modFaults o f).link = w.link := rfl

@[simp] theorem Works.stopDriving_link (w : Works) (o : OutId) (d : Driven) : (w.stopDriving o d).link = w.link := by
  simp [Works.stopDriving, apply_ite Works.link]

@[simp] theorem Works.switchOff_link (w : Works) (o : OutId) : (w.switchOff o).link = w.link := by
  simp [Works.switchOff, apply_ite Works.link]

@[simp] theorem Works.setDemand_link (w : Works) (o : OutId) (d : Option Drive) : (w.setDemand o d).link = w.link := by
  cases d <;> simp [Works.setDemand]

@[simp] theorem Works.takeNotice_link (w : Works) (o : OutId) (n : GrantNotice) : (w.takeNotice o n).link = w.link := by
  cases n <;> simp [Works.takeNotice, apply_ite Works.link]

@[simp] theorem Works.takeNotices_link (ns : Notices) (w : Works) : (w.takeNotices ns).link = w.link := by
  induction ns generalizing w with
  | nil => rfl
  | cons n rest ih => rw [Works.takeNotices, ih, Works.takeNotice_link]

@[simp] theorem Works.afterArbiter_link (w : Works) (r : Arbiter × Notices) : (w.afterArbiter r).link = w.link := by
  simp [Works.afterArbiter]

@[simp] theorem Works.garbRequest_link (w : Works) (r : GrantRequest) : (w.garbRequest r).1.link = w.link := by
  simp [Works.garbRequest]

@[simp] theorem Works.garbRelease_link (w : Works) (o : OutId) : (w.garbRelease o).link = w.link := by
  simp [Works.garbRelease]

@[simp] theorem Works.garbWithdraw_link (w : Works) (o : OutId) : (w.garbWithdraw o).link = w.link := by
  simp [Works.garbWithdraw]

@[simp] theorem Works.adopt_link (w : Works) (o : OutId) : (w.adopt o).link = w.link := rfl

@[simp] theorem Works.ask_link (w : Works) (r : GrantRequest) : (w.ask r).1.link = w.link := by
  unfold Works.ask
  split <;> simp

@[simp] theorem Works.dropHeld_link (w : Works) (o : OutId) : (w.dropHeld o).link = w.link := by
  unfold Works.dropHeld
  split <;> simp

@[simp] theorem Works.release_link (w : Works) (o : OutId) : (w.release o).link = w.link := by
  simp [Works.release, apply_ite Works.link]

@[simp] theorem Works.withdraw_link (w : Works) (o : OutId) : (w.withdraw o).link = w.link := by
  simp [Works.withdraw, apply_ite Works.link]

/-! ## The lights leave the link as it is -/

@[simp] theorem Works.withdrawLight_link (w : Works) (ch : LightId) : (w.withdrawLight ch).link = w.link := by
  simp [Works.withdrawLight]

@[simp] theorem Works.askLight_link (w : Works) (ch : LightId) (aim : Nat) : (w.askLight ch aim).1.link = w.link := by
  simp [Works.askLight]

@[simp] theorem Works.correctEntry_link (w : Works) (ch : LightId) : (w.correctEntry ch).link = w.link := by
  unfold Works.correctEntry
  split
  · rfl
  · simp [apply_ite Works.link]

@[simp] theorem Works.settleEntry_link (w : Works) (ch : LightId) : (w.settleEntry ch).link = w.link := by
  simp [Works.settleEntry, apply_ite Works.link]

@[simp] theorem Works.lightNotice_link (w : Works) (ch : LightId) (n : GrantNotice) :
    (w.lightNotice ch n).link = w.link := by
  cases n <;> simp [Works.lightNotice]

@[simp] theorem Works.lightStage_link (w : Works) (ch : LightId) (n : StageNotice) : (w.lightStage ch n).link = w.link := by
  cases n with
  | cleared => simp only [Works.lightStage]; split <;> simp
  | _ => simp [Works.lightStage]

@[simp] theorem Works.setToward_link (w : Works) (ch : LightId) (fadeTime : Nat) :
    (w.setToward ch fadeTime).1.link = w.link := by
  unfold Works.setToward
  dsimp only
  split
  case isTrue => simp
  case isFalse => split <;> split <;> simp

@[simp] theorem Works.courtesyTrigger_link (w : Works) : w.courtesyTrigger.link = w.link := by
  unfold Works.courtesyTrigger
  split
  · simp [apply_ite Works.link]
  · rfl

/-! ## The pump's and the drain's requests, the fan and the burner leave the link as it is -/

@[simp] theorem Works.askPump_link (w : Works) : w.askPump.link = w.link := by simp [Works.askPump]

@[simp] theorem Works.releasePump_link (w : Works) : w.releasePump.link = w.link := by
  simp [Works.releasePump, apply_ite Works.link]

@[simp] theorem Works.askDrain_link (w : Works) : w.askDrain.link = w.link := by simp [Works.askDrain]

@[simp] theorem Works.stopPulse_link (w : Works) : w.stopPulse.link = w.link := by simp [Works.stopPulse]

@[simp] theorem Works.setHeater_link (w : Works) (h : Heater) : (w.setHeater h).link = w.link := by
  simp [Works.setHeater, apply_ite Works.link]

@[simp] theorem Works.fanFollows_link (w : Works) (duty : Option Nat) : (w.fanFollows duty).link = w.link := by
  simp [Works.fanFollows]

@[simp] theorem Works.ignite_link (w : Works) (duty : Option Nat) : (w.ignite duty).link = w.link := by
  simp [Works.ignite, apply_ite Works.link]

@[simp] theorem Works.fanGranted_link (w : Works) (duty : Option Nat) : (w.fanGranted duty).link = w.link := by
  unfold Works.fanGranted
  split <;> simp

@[simp] theorem Works.giveUp_link (w : Works) (o : OutId) : (w.giveUp o).link = w.link := by
  simp [Works.giveUp, apply_ite Works.link]

@[simp] theorem Works.askFan_link (w : Works) (cls : Option Nat) (wanted floor : Nat) :
    (w.askFan cls wanted floor).link = w.link := by
  simp [Works.askFan]

@[simp] theorem Works.purge_link (w : Works) (reason : PurgeReason) (after : AfterPurge) :
    (w.purge reason after).link = w.link := by
  simp [Works.purge]

@[simp] theorem Works.fanRevoked_link (w : Works) : w.fanRevoked.link = w.link := by
  unfold Works.fanRevoked
  split <;> simp

@[simp] theorem Works.fanWithdrawn_link (w : Works) : w.fanWithdrawn.link = w.link := by
  unfold Works.fanWithdrawn
  split <;> simp

@[simp] theorem Works.fanNotice_link (w : Works) (n : GrantNotice) : (w.fanNotice n).link = w.link := by
  cases n <;> simp [Works.fanNotice]

@[simp] theorem Works.burnerNotice_link (w : Works) (n : GrantNotice) : (w.burnerNotice n).link = w.link := by
  unfold Works.burnerNotice
  split
  · split <;> simp
  · rfl

@[simp] theorem Works.unwanted_link (w : Works) (o : OutId) : (w.unwanted o).link = w.link := by
  unfold Works.unwanted
  split <;> simp [apply_ite Works.link]

/-! ## The queue and the motor's requests leave the link as it is -/

@[simp] theorem Works.enqueue_link (w : Works) (e : QueueEntry) : (w.enqueue e).link = w.link := rfl

@[simp] theorem Works.askMotor_link (w : Works) (e : QueueEntry) : (w.askMotor e).link = w.link := by
  simp [Works.askMotor]

@[simp] theorem Works.tryEntries_link (q : List QueueEntry) (w : Works) : (w.tryEntries q).1.link = w.link := by
  induction q generalizing w with
  | nil => rfl
  | cons e rest ih => simp [Works.tryEntries, apply_ite Prod.fst, apply_ite Works.link, ih]

/-! ## A posting moves the Cause Set and the attention line's state alone (R190) -/

/-- The link but for what a posting moves (R190, R192): the Cause Set and the attention-busy latch blanked. -/
def Link.unposted (l : Link) : Link := { l with causes := .empty, busy := false }

@[simp] theorem Link.unposted_unit (l : Link) : l.unposted.unit = l.unit := rfl

/-- Links that agree but for what a posting moves hold one unit address. -/
theorem Link.unit_of_unposted {l m : Link} (h : l.unposted = m.unposted) : l.unit = m.unit := by
  simpa using congrArg Link.unit h

theorem Works.post_unposted (w : Works) (c : Cause) (causes : CauseSet) :
    (w.post c causes).link.unposted = w.link.unposted := rfl

/-! ### The pump, the drain and the heater -/

@[simp] theorem Works.postWaterFor_unposted (w : Works) (reasons : FlagSet) :
    (w.postWaterFor reasons).link.unposted = w.link.unposted := by
  unfold Works.postWaterFor
  split
  · rfl
  · exact w.post_unposted _ _

@[simp] theorem Works.evaluatePump_unposted (w : Works) (reasons : FlagSet) :
    (w.evaluatePump reasons).link.unposted = w.link.unposted := by
  unfold Works.evaluatePump
  dsimp only
  rw [Works.postWaterFor_unposted]
  split <;> simp [apply_ite Works.link]

@[simp] theorem Works.pumpNotice_unposted (w : Works) (n : GrantNotice) :
    (w.pumpNotice n).link.unposted = w.link.unposted := by
  cases n <;> simp [Works.pumpNotice]

@[simp] theorem Works.pumpStage_unposted (w : Works) (n : StageNotice) :
    (w.pumpStage n).link.unposted = w.link.unposted := by
  cases n <;> simp [Works.pumpStage]

@[simp] theorem Works.postDrainChange_unposted (w : Works) (before : DrainState) (reason : DrainReason) :
    (w.postDrainChange before reason).link.unposted = w.link.unposted :=
  w.post_unposted _ _

@[simp] theorem Works.startPulse_unposted (w : Works) (opening : Bool) (reason : DrainReason) :
    (w.startPulse opening reason).link.unposted = w.link.unposted := by
  simp [Works.startPulse]

@[simp] theorem Works.enterDrain_unposted (w : Works) (state : Drain) (reason : DrainReason) :
    (w.enterDrain state reason).link.unposted = w.link.unposted := by
  simp [Works.enterDrain, apply_ite Works.link, apply_ite Link.unposted]

@[simp] theorem Works.confirmDrain_unposted (w : Works) : w.confirmDrain.link.unposted = w.link.unposted := by
  unfold Works.confirmDrain
  split <;> simp [apply_ite Works.link, apply_ite Link.unposted]

@[simp] theorem Works.drainNotice_unposted (w : Works) (n : GrantNotice) :
    (w.drainNotice n).link.unposted = w.link.unposted := by
  unfold Works.drainNotice
  split
  · split <;> simp [apply_ite Works.link, apply_ite Link.unposted]
  · split <;> simp [apply_ite Works.link]
  · rfl

@[simp] theorem Works.drainStage_unposted (w : Works) (n : StageNotice) :
    (w.drainStage n).link.unposted = w.link.unposted := by
  unfold Works.drainStage
  split
  · split <;> simp [apply_ite Works.link, apply_ite Link.unposted]
  · rfl

@[simp] theorem Works.postHeater_unposted (w : Works) (d : HeaterDetail) :
    (w.postHeater d).link.unposted = w.link.unposted :=
  w.post_unposted _ _

@[simp] theorem Works.enterLockout_unposted (w : Works) (reason : LockoutReason) :
    (w.enterLockout reason).link.unposted = w.link.unposted := by
  simp [Works.enterLockout]

@[simp] theorem Works.fanStage_unposted (w : Works) (n : StageNotice) :
    (w.fanStage n).link.unposted = w.link.unposted := by
  cases n with
  | cut => simp only [Works.fanStage]; split <;> simp
  | latched => simp only [Works.fanStage]; split <;> simp
  | _ => simp [Works.fanStage]

@[simp] theorem Works.burnerLatched_unposted (w : Works) : w.burnerLatched.link.unposted = w.link.unposted := by
  unfold Works.burnerLatched
  split <;> split <;> simp

@[simp] theorem Works.burnerStage_unposted (w : Works) (n : StageNotice) :
    (w.burnerStage n).link.unposted = w.link.unposted := by
  cases n with
  | cut => simp only [Works.burnerStage]; split <;> simp
  | _ => simp [Works.burnerStage]

/-! ### The axes and the motor -/

@[simp] theorem Works.judgeDepart_unposted (w : Works) : w.judgeDepart.link.unposted = w.link.unposted := by
  unfold Works.judgeDepart
  dsimp only
  split
  · rfl
  · exact Works.post_unposted _ _ _

@[simp] theorem Works.moveAxis_unposted (w : Works) (a : Axis) (state : AxisState) (position : Option Nat) :
    (w.moveAxis a state position).link.unposted = w.link.unposted := by
  simp [Works.moveAxis, apply_ite Works.link, apply_ite Link.unposted]

@[simp] theorem Works.adoptMotion_unposted (w : Works) : w.adoptMotion.link.unposted = w.link.unposted := by
  simp [Works.adoptMotion]

@[simp] theorem Works.endAxis_unposted (w : Works) (m : HeldMove) (result : AxisEnd) :
    (w.endAxis m result).link.unposted = w.link.unposted := by
  unfold Works.endAxis
  dsimp only
  split <;> simp [apply_ite Works.link, apply_ite Link.unposted]

@[simp] theorem Works.postMotion_unposted (w : Works) (a : Axis) (direction : Option Direction) (origin : Option Origin)
    (outcome : MoveOutcome) (cause : Option MoveCause) :
    (w.postMotion a direction origin outcome cause).link.unposted = w.link.unposted :=
  w.post_unposted _ _

@[simp] theorem Works.postEntry_unposted (w : Works) (e : QueueEntry) (outcome : MoveOutcome) (cause : Option MoveCause) :
    (w.postEntry e outcome cause).link.unposted = w.link.unposted :=
  w.postMotion_unposted _ _ _ _ _

@[simp] theorem Works.endMove_unposted (w : Works) (m : HeldMove) (outcome : MoveOutcome) (cause : Option MoveCause)
    (result : AxisEnd) : (w.endMove m outcome cause result).link.unposted = w.link.unposted := by
  simp [Works.endMove, apply_ite Works.link]

@[simp] theorem Works.drive_unposted (w : Works) (m : HeldMove) : (w.drive m).1.link.unposted = w.link.unposted := by
  simp [Works.drive, apply_ite Works.link]

@[simp] theorem Works.driveStart_unposted (w : Works) (m : HeldMove) :
    (w.driveStart m).1.link.unposted = w.link.unposted := by
  unfold Works.driveStart
  dsimp only
  split
  · simp
  · split <;> simp

@[simp] theorem Works.takeEntry_unposted (w : Works) (e : QueueEntry) :
    (w.takeEntry e).1.link.unposted = w.link.unposted := by
  unfold Works.takeEntry
  dsimp only
  split <;> simp

@[simp] theorem Works.selectOnce_unposted (w : Works) : w.selectOnce.1.link.unposted = w.link.unposted := by
  unfold Works.selectOnce
  split
  case h_1 => simp [apply_ite Works.link]
  case h_2 =>
    dsimp only
    split
    · split <;> simp
    · split <;> simp [apply_ite Works.link]

@[simp] theorem Works.select_unposted (fuel : Nat) (w : Works) : (w.select fuel).link.unposted = w.link.unposted := by
  induction fuel generalizing w with
  | zero => rfl
  | succ fuel ih => simp [Works.select, apply_ite Works.link, apply_ite Link.unposted, ih]

@[simp] theorem Works.selection_unposted (w : Works) : w.selection.link.unposted = w.link.unposted :=
  w.select_unposted selectFuel

@[simp] theorem Works.finishMove_unposted (w : Works) (m : HeldMove) (outcome : MoveOutcome) (cause : Option MoveCause)
    (result : AxisEnd) : (w.finishMove m outcome cause result).link.unposted = w.link.unposted := by
  simp [Works.finishMove]

@[simp] theorem Works.motorNotice_unposted (w : Works) (n : GrantNotice) :
    (w.motorNotice n).link.unposted = w.link.unposted := by
  unfold Works.motorNotice
  split
  · split
    · split <;> simp [apply_ite Works.link, apply_ite Link.unposted]
    · rfl
  · split <;> simp
  · rfl

@[simp] theorem Works.motorStageNotice_unposted (w : Works) (n : StageNotice) :
    (w.motorStageNotice n).link.unposted = w.link.unposted := by
  unfold Works.motorStageNotice
  split
  · split <;> simp
  · dsimp only
    split <;> simp
  · split <;> simp
  · rfl

/-! ## The delivery of notices moves nothing of the link but what a posting moves (R56, R80) -/

theorem Works.deliverGrant_unposted (w : Works) (o : OutId) (n : GrantNotice) :
    (w.deliverGrant o n).link.unposted = w.link.unposted := by
  unfold Works.deliverGrant
  split
  · simp
  · simp [apply_ite Works.link, apply_ite Link.unposted]

theorem Works.deliverStage_unposted (w : Works) (o : OutId) (n : StageNotice) :
    (w.deliverStage o n).link.unposted = w.link.unposted := by
  unfold Works.deliverStage
  split
  · simp
  · simp [apply_ite Works.link, apply_ite Link.unposted]

theorem Works.deliver_unposted (w : Works) (n : Notice) : (w.deliver n).link.unposted = w.link.unposted := by
  cases n with
  | grant o n => exact w.deliverGrant_unposted o n
  | stage o n => exact w.deliverStage_unposted o n

theorem Works.drain_unposted (fuel : Nat) (w : Works) : (w.drain fuel).link.unposted = w.link.unposted := by
  induction fuel generalizing w with
  | zero => rfl
  | succ fuel ih =>
    unfold Works.drain
    split
    · rfl
    · rw [ih, Works.deliver_unposted]

@[simp] theorem Works.settle_unposted (w : Works) : w.settle.link.unposted = w.link.unposted :=
  w.drain_unposted drainFuel

/-! ## What the blocks do at start moves nothing of the link but what a posting moves (R165, R173) -/

@[simp] theorem Works.heaterStarts_unposted (w : Works) : w.heaterStarts.link.unposted = w.link.unposted := by
  unfold Works.heaterStarts
  split
  · simp
  · exact Works.postHeater_unposted _ _
  · rfl

@[simp] theorem Works.drainStarts_unposted (w : Works) : w.drainStarts.link.unposted = w.link.unposted := by
  unfold Works.drainStarts
  split
  · exact Works.postDrainChange_unposted _ _ _
  · rfl

@[simp] theorem Works.undrivenSwitch_unposted (w : Works) (a : Axis) (retractedOne closed : Bool) :
    (w.undrivenSwitch a retractedOne closed).link.unposted = w.link.unposted := by
  unfold Works.undrivenSwitch
  dsimp only
  split <;> simp

@[simp] theorem Works.axisStarts_unposted (w : Works) (a : Axis) : (w.axisStarts a).link.unposted = w.link.unposted := by
  cases a <;> simp [Works.axisStarts]

@[simp] theorem Works.preemptExtend_unposted (w : Works) : w.preemptExtend.1.link.unposted = w.link.unposted := by
  unfold Works.preemptExtend
  split
  · split <;> simp
  · rfl

@[simp] theorem Works.dropExtends_unposted (q : List QueueEntry) (w : Works) :
    (w.dropExtends q).1.link.unposted = w.link.unposted := by
  induction q generalizing w with
  | nil => rfl
  | cons e rest ih =>
    unfold Works.dropExtends
    split <;> simp [ih]

@[simp] theorem Works.autoRequest_unposted (w : Works) (a : Axis) (d : Direction) (reason : AutoReason) :
    (w.autoRequest a d reason).1.link.unposted = w.link.unposted := by
  cases d with
  | extend | retract =>
    simp only [Works.autoRequest]
    split
    case isTrue => rfl
    case isFalse => split <;> simp [apply_ite Prod.fst, apply_ite Works.link, apply_ite Link.unposted]

@[simp] theorem Works.queueChanged_unposted (w : Works) : w.queueChanged.link.unposted = w.link.unposted := by
  unfold Works.queueChanged
  split <;> simp

@[simp] theorem Works.settleQueue_unposted (r : Works × Bool) :
    (Works.settleQueue r).link.unposted = r.1.link.unposted := by
  simp [Works.settleQueue, apply_ite Works.link, apply_ite Link.unposted]

@[simp] theorem Works.ignitionRetract_unposted (w : Works) : w.ignitionRetract.link.unposted = w.link.unposted := by
  simp [Works.ignitionRetract, apply_ite Prod.fst, apply_ite Works.link, apply_ite Link.unposted]

@[simp] theorem Works.motionStarts_unposted (w : Works) : w.motionStarts.link.unposted = w.link.unposted := by
  simp [Works.motionStarts, Works.ignitionAtStart, apply_ite Works.link, apply_ite Link.unposted]

/-! ## The unit address and the reply to IDENT (R185) -/

/-- A reset leaves the link as it starts, but for what the postings at start move. -/
theorem State.resetAs_unposted (s : State) (kind : ResetKind) (pins : Inputs) :
    (s.resetAs kind pins).works.link.unposted = (s.started kind pins).link.unposted := by
  simp [State.resetAs]

/-- R185: the unit address is that of the straps at reset completion. -/
theorem State.resetAs_unit (s : State) (kind : ResetKind) (pins : Inputs) :
    (s.resetAs kind pins).works.link.unit = pins.straps :=
  Link.unit_of_unposted (s.resetAs_unposted kind pins)

@[simp] theorem State.pins_listens (s : State) (f : Inputs → Inputs) : (s.pins f).listens = s.listens := rfl

theorem exec_ident (straps : BitVec 2) (s : State) : exec (.ident straps) s
    = s.takes fun s => (s.pins fun p => { p with straps := straps }).serve 1 State.takeIdent := rfl

/-- R185: the bytes that IDENT answers. -/
theorem State.takeIdent_payload (s : State) : s.takeIdent.2.payload = [0x00, 0x48, 0x01,
    BitVec.ofNat 8 s.works.link.unit.toNat, if s.inputs.straps = s.works.link.unit then 0 else 1] := by
  by_cases same : s.inputs.straps = s.works.link.unit <;>
    simp [State.takeIdent, Verdict.payload, Config.identity, Config.revision, u16, u8, flag, same]

/-- Settles O7: a listening part serves IDENT with the bytes of `State.takeIdent_payload`, and a reset takes the unit address
from the straps, which no posting at start moves. -/
theorem identReply : Obligations.IdentReply := by
  refine ⟨fun straps s listens => ?_, fun kind pins s => s.resetAs_unit kind pins⟩
  obtain ⟨powered, _⟩ := (State.listens_iff s).1 listens
  rw [exec_ident, State.takes_of_powered powered, State.serve_of_listens (by simpa using listens),
    State.takeIdent_payload]
  rfl

end Sys2Proof.Machine
end
